-- ==== Sys2Proof/Config.lean ====
section
/-! DEFINITION. The implementation parameters of the decoder (spec 00_scope.md R9).
None is a run-time input and none is left open, so there is no free value here:
"the model needs no draw, oracle or schedule" (R19).  The numeric opcodes of R9's last rows are in
Sys2Proof/Decode.lean beside the classifier. -/

namespace Sys2Proof

/-- ILEN, the width of the instruction word (R9, R29). -/
abbrev Config.ilen : Nat := 32

/-- XLEN of the instruction set decoded, RV64I (R9); it is why the 64-bit shifts have a 6-bit amount. -/
abbrev Config.xlen : Nat := 64

/-- IMM_W, the width of the port imm_o (R9, R33; the spec's decision D3). -/
abbrev Config.immW : Nat := 64

/-- The width of a register index (R9). -/
abbrev Config.regIdxW : Nat := 5

/-- Raw I and S immediate (R9). -/
abbrev Config.immIW : Nat := 12

/-- B immediate, bit 0 always 0 (R9). -/
abbrev Config.immBW : Nat := 13

/-- U immediate as the 32-bit pattern: 20 raw bits placed at bit 12 (R9, R63). -/
abbrev Config.immUW : Nat := 32

/-- J immediate, bit 0 always 0 (R9). -/
abbrev Config.immJW : Nat := 21

/-- Shift amount of the 64-bit shifts (R9, R59). -/
abbrev Config.shamtW : Nat := 6

/-- Shift amount of the word shifts (R9, R59). -/
abbrev Config.shamtWordW : Nat := 5

/-- Number of formats, of opcodes with a format, and of mnemonics (R9). -/
abbrev Config.numFormats : Nat := 6
abbrev Config.numOpcodes : Nat := 13
abbrev Config.numMnemonics : Nat := 52

/-- State bits inside the block (R9: 0, R20). -/
abbrev Config.stateBits : Nat := 0

end Sys2Proof
end

