-- ==== Sys2Proof/Word.lean ====
section
/-! DEFINITION. The instruction word and the abstract types of the spec (00_scope.md R10 to R14):
formats, opcode groups, the 52 mnemonics, operands, and the Decode Result. -/

namespace Sys2Proof

/-- The InstructionWord: "an opaque 32-bit unsigned value; the sole input" (R29).
Bits are numbered 31 down to 0 (R10), so `w.extractLsb hi lo` is the spec's `w[hi:lo]`. -/
abbrev Word := BitVec 32

/-- One byte of the caller's little-endian instruction stream (R38). -/
abbrev Byte := BitVec 8

/-- A register index, 0 to 31: a 5-bit unsigned field of the word (R22). -/
abbrev RegIdx := BitVec 5

/-- The six instruction formats (R14). -/
inductive Format where
  | R | I | S | B | U | J
deriving DecidableEq, Repr

/-- The 13 opcode groups, under the spec's shorthand names (R67, R76, R80). -/
inductive Group where
  | load | fence | opImm | auipc | opImm32 | store | op | lui | op32 | branch | jalr | jal | system
deriving DecidableEq, Repr

/-- The 52 mnemonic tags, in the order of the port codes (R34, R67). -/
inductive Mnemonic where
  | LB | LH | LW | LBU | LHU | LWU | LD
  | FENCE
  | ADDI | SLTI | SLTIU | XORI | ORI | ANDI | SLLI | SRLI | SRAI
  | ADDIW | SLLIW | SRLIW | SRAIW
  | JALR
  | ECALL | EBREAK
  | LUI | AUIPC
  | SB | SH | SW | SD
  | ADD | SUB | SLL | SLT | SLTU | XOR | SRL | SRA | OR | AND
  | ADDW | SUBW | SLLW | SRLW | SRAW
  | BEQ | BNE | BLT | BGE | BLTU | BGEU
  | JAL
deriving DecidableEq, Repr

/-- An operand of a Decode Result: a register index or a signed immediate, the immediate being the
mathematical integer (R13, R14). -/
inductive Operand where
  | reg (i : RegIdx)
  | imm (v : Int)
deriving DecidableEq, Repr

/-- The names of the operands (R157). `rd`, `rs1`, `rs2` name `reg` operands, the others `imm` operands. -/
inductive OperandName where
  | rd | rs1 | rs2 | imm | shamt | succ | pred | fm
deriving DecidableEq, Repr

/-- The Decode Result: a mnemonic with its ordered operand list, or the one error kind, which carries
nothing (R14, R30, R163). -/
inductive DecodeResult where
  | decoded (m : Mnemonic) (ops : List Operand)
  | undefined
deriving DecidableEq, Repr

end Sys2Proof
end

