-- ==== Sys2Proof/Syntax.lean ====
section
/-! DEFINITION. The instructions as syntax: one constructor per row of spec/opcode_table.json (R67).
Immediates stand as the assembled bit vectors of 30_encoding.md (R58 to R64), which the report of an
instruction turns into signed or unsigned integers. -/

namespace Sys2Proof

/-- The 52 instructions of the opcode table with the fields of their encodings. -/
inductive Instr where
  -- LOAD family, R85 to R91: `imm` is the raw `imm12`, reported as its signed value.
  | lb (rd rs1 : RegIdx) (imm : BitVec 12)
  | lh (rd rs1 : RegIdx) (imm : BitVec 12)
  | lw (rd rs1 : RegIdx) (imm : BitVec 12)
  | lbu (rd rs1 : RegIdx) (imm : BitVec 12)
  | lhu (rd rs1 : RegIdx) (imm : BitVec 12)
  | lwu (rd rs1 : RegIdx) (imm : BitVec 12)
  | ld (rd rs1 : RegIdx) (imm : BitVec 12)
  -- FENCE, R92: the three reported sub-fields, then the two fields that are "extracted, not
  -- checked and not reported" (log entry 6).
  | fence (succ pred fm : BitVec 4) (rs1 rd : RegIdx)
  -- Immediate ALU, R93 to R98.
  | addi (rd rs1 : RegIdx) (imm : BitVec 12)
  | slti (rd rs1 : RegIdx) (imm : BitVec 12)
  | sltiu (rd rs1 : RegIdx) (imm : BitVec 12)
  | xori (rd rs1 : RegIdx) (imm : BitVec 12)
  | ori (rd rs1 : RegIdx) (imm : BitVec 12)
  | andi (rd rs1 : RegIdx) (imm : BitVec 12)
  -- 64-bit shift immediates, R99 to R101: a 6-bit unsigned shift amount.
  | slli (rd rs1 : RegIdx) (shamt : BitVec 6)
  | srli (rd rs1 : RegIdx) (shamt : BitVec 6)
  | srai (rd rs1 : RegIdx) (shamt : BitVec 6)
  -- Immediate ALU word, R102.
  | addiw (rd rs1 : RegIdx) (imm : BitVec 12)
  -- Word shift immediates, R103 to R105: a 5-bit unsigned shift amount.
  | slliw (rd rs1 : RegIdx) (shamt : BitVec 5)
  | srliw (rd rs1 : RegIdx) (shamt : BitVec 5)
  | sraiw (rd rs1 : RegIdx) (shamt : BitVec 5)
  -- JALR, R106.
  | jalr (rd rs1 : RegIdx) (imm : BitVec 12)
  -- SYSTEM, R108 and R109: no operand.
  | ecall
  | ebreak
  -- U format, R112 and R113: the 32-bit pattern already in position, low 12 bits zero (R63).
  | lui (rd : RegIdx) (imm : BitVec 32)
  | auipc (rd : RegIdx) (imm : BitVec 32)
  -- Stores, R116 to R119: the reassembled 12-bit immediate (R61).
  | sb (rs1 rs2 : RegIdx) (imm : BitVec 12)
  | sh (rs1 rs2 : RegIdx) (imm : BitVec 12)
  | sw (rs1 rs2 : RegIdx) (imm : BitVec 12)
  | sd (rs1 rs2 : RegIdx) (imm : BitVec 12)
  -- 64-bit-wide ALU, R124 to R133.
  | add (rd rs1 rs2 : RegIdx)
  | sub (rd rs1 rs2 : RegIdx)
  | sll (rd rs1 rs2 : RegIdx)
  | slt (rd rs1 rs2 : RegIdx)
  | sltu (rd rs1 rs2 : RegIdx)
  | xor (rd rs1 rs2 : RegIdx)
  | srl (rd rs1 rs2 : RegIdx)
  | sra (rd rs1 rs2 : RegIdx)
  | or (rd rs1 rs2 : RegIdx)
  | and (rd rs1 rs2 : RegIdx)
  -- Word-sized ALU, R134 to R138.
  | addw (rd rs1 rs2 : RegIdx)
  | subw (rd rs1 rs2 : RegIdx)
  | sllw (rd rs1 rs2 : RegIdx)
  | srlw (rd rs1 rs2 : RegIdx)
  | sraw (rd rs1 rs2 : RegIdx)
  -- Branches, R143 to R148: the reassembled 13-bit offset `u13`, bit 0 zero (R140).
  | beq (rs1 rs2 : RegIdx) (imm : BitVec 13)
  | bne (rs1 rs2 : RegIdx) (imm : BitVec 13)
  | blt (rs1 rs2 : RegIdx) (imm : BitVec 13)
  | bge (rs1 rs2 : RegIdx) (imm : BitVec 13)
  | bltu (rs1 rs2 : RegIdx) (imm : BitVec 13)
  | bgeu (rs1 rs2 : RegIdx) (imm : BitVec 13)
  -- JAL, R152: the reassembled 21-bit offset `u21`, bit 0 zero (R150).
  | jal (rd : RegIdx) (imm : BitVec 21)
deriving DecidableEq, Repr

end Sys2Proof
end

