-- ==== Sys2Proof/WellFormed.lean ====
section
/-! DEFINITION. Which instructions an encoding exists for.  The field widths of Instr already bound
every field; what is left is what the immediate assemblers force to zero: bit 0 of the B and J
offsets (R62, R64) and the low 12 bits of the U immediate (R63).  Every other field value of every
instruction is accepted (R22, R72). -/

namespace Sys2Proof

/-- "imm[0] is always 0 (branch targets are 2-byte aligned at minimum)" (R40, R139). -/
def evenB (imm : BitVec 13) : Bool := imm.extractLsb 0 0 == 0#1

/-- Bit 0 of the J immediate is 0 for every word (R64). -/
def evenJ (imm : BitVec 21) : Bool := imm.extractLsb 0 0 == 0#1

/-- "the low 12 bits are forced to zero" (R63, R110). -/
def placedU (imm : BitVec 32) : Bool := imm.extractLsb 11 0 == 0#12

/-- The instruction can be encoded: its immediate has the zero bits its format forces. -/
def Instr.wellFormed : Instr → Bool
  | .lb _ _ _ => true
  | .lh _ _ _ => true
  | .lw _ _ _ => true
  | .lbu _ _ _ => true
  | .lhu _ _ _ => true
  | .lwu _ _ _ => true
  | .ld _ _ _ => true
  | .fence _ _ _ _ _ => true
  | .addi _ _ _ => true
  | .slti _ _ _ => true
  | .sltiu _ _ _ => true
  | .xori _ _ _ => true
  | .ori _ _ _ => true
  | .andi _ _ _ => true
  | .slli _ _ _ => true
  | .srli _ _ _ => true
  | .srai _ _ _ => true
  | .addiw _ _ _ => true
  | .slliw _ _ _ => true
  | .srliw _ _ _ => true
  | .sraiw _ _ _ => true
  | .jalr _ _ _ => true
  | .ecall => true
  | .ebreak => true
  | .lui _ imm => placedU imm
  | .auipc _ imm => placedU imm
  | .sb _ _ _ => true
  | .sh _ _ _ => true
  | .sw _ _ _ => true
  | .sd _ _ _ => true
  | .add _ _ _ => true
  | .sub _ _ _ => true
  | .sll _ _ _ => true
  | .slt _ _ _ => true
  | .sltu _ _ _ => true
  | .xor _ _ _ => true
  | .srl _ _ _ => true
  | .sra _ _ _ => true
  | .or _ _ _ => true
  | .and _ _ _ => true
  | .addw _ _ _ => true
  | .subw _ _ _ => true
  | .sllw _ _ _ => true
  | .srlw _ _ _ => true
  | .sraw _ _ _ => true
  | .beq _ _ imm => evenB imm
  | .bne _ _ imm => evenB imm
  | .blt _ _ imm => evenB imm
  | .bge _ _ imm => evenB imm
  | .bltu _ _ imm => evenB imm
  | .bgeu _ _ imm => evenB imm
  | .jal _ imm => evenJ imm

end Sys2Proof
end

