-- ==== Sys2Proof/Decode.lean ====
section
/-! DEFINITION. The decoder's pipeline: fields, Format Classifier, six Field Extractors, Immediate
Assembler, six Instruction Resolvers, Resolver Multiplexer (R1, R153, R154); the caller's byte order
(R38); then the encoder, written from the encodings of 30_encoding.md section 1. -/

namespace Sys2Proof

/-! ## Fields that keep one position (R50, R51) -/

/-- `opcode = word & 0x7F`, that is `w[6:0]` (R50, R75). -/
def opcode (w : Word) : BitVec 7 := w.extractLsb 6 0
/-- `rd = w[11:7]` (R50). -/
def rdField (w : Word) : RegIdx := w.extractLsb 11 7
/-- `funct3 = w[14:12]` (R50). -/
def funct3 (w : Word) : BitVec 3 := w.extractLsb 14 12
/-- `rs1 = w[19:15]` (R50). -/
def rs1Field (w : Word) : RegIdx := w.extractLsb 19 15
/-- `rs2 = w[24:20]` (R50). -/
def rs2Field (w : Word) : RegIdx := w.extractLsb 24 20
/-- `funct7 = w[31:25]` (R50, R51). -/
def funct7 (w : Word) : BitVec 7 := w.extractLsb 31 25
/-- `imm12 = w[31:20]`, unsigned, not yet sign-extended (R52, R58). -/
def imm12Field (w : Word) : BitVec 12 := w.extractLsb 31 20

/-! ## Format Classifier (40_format_classifier.md) -/

/-- The opcode group the opcode identifies: the 13 entries of the table (R76, R80). The other 115
opcode values have none (R77). -/
def groupOf (op : BitVec 7) : Option Group :=
  match op with
  | 0b0000011#7 => some .load
  | 0b0001111#7 => some .fence
  | 0b0010011#7 => some .opImm
  | 0b0010111#7 => some .auipc
  | 0b0011011#7 => some .opImm32
  | 0b0100011#7 => some .store
  | 0b0110011#7 => some .op
  | 0b0110111#7 => some .lui
  | 0b0111011#7 => some .op32
  | 0b1100011#7 => some .branch
  | 0b1100111#7 => some .jalr
  | 0b1101111#7 => some .jal
  | 0b1110011#7 => some .system
  | _ => none

/-- `classify : opcode -> Format or none` (R77), a closed and exact table (R78). -/
def classify (op : BitVec 7) : Option Format :=
  match op with
  | 0b0110011#7 | 0b0111011#7 => some .R
  | 0b0000011#7 | 0b0001111#7 | 0b0010011#7 | 0b0011011#7 | 0b1100111#7 | 0b1110011#7 => some .I
  | 0b0100011#7 => some .S
  | 0b1100011#7 => some .B
  | 0b0010111#7 | 0b0110111#7 => some .U
  | 0b1101111#7 => some .J
  | _ => none

/-- The opcode value of a group, the other way round (R67, R76). -/
def Group.opcode : Group → BitVec 7
  | .load => 0b0000011#7
  | .fence => 0b0001111#7
  | .opImm => 0b0010011#7
  | .auipc => 0b0010111#7
  | .opImm32 => 0b0011011#7
  | .store => 0b0100011#7
  | .op => 0b0110011#7
  | .lui => 0b0110111#7
  | .op32 => 0b0111011#7
  | .branch => 0b1100011#7
  | .jalr => 0b1100111#7
  | .jal => 0b1101111#7
  | .system => 0b1110011#7

/-- The format of an opcode group (R67). -/
def Group.format : Group → Format
  | .load | .fence | .opImm | .opImm32 | .jalr | .system => .I
  | .auipc | .lui => .U
  | .store => .S
  | .op | .op32 => .R
  | .branch => .B
  | .jal => .J

/-! ## I-type extractor and resolver (41_i_type.md) -/

/-- What the I-type Field Extractor hands on (R52, R82). -/
structure IFields where
  opcode : BitVec 7
  rd : RegIdx
  funct3 : BitVec 3
  rs1 : RegIdx
  imm12 : BitVec 12
deriving DecidableEq, Repr

/-- The I-type Field Extractor; it "refuses nothing" (R82). -/
def extractI (w : Word) : IFields where
  opcode := opcode w
  rd := rdField w
  funct3 := funct3 w
  rs1 := rs1Field w
  imm12 := imm12Field w

/-- `shamt6 = imm12[5:0]` (R59). -/
def shamt6 (imm12 : BitVec 12) : BitVec 6 := imm12.extractLsb 5 0
/-- `shtype6 = imm12[11:6]` (R59). -/
def shtype6 (imm12 : BitVec 12) : BitVec 6 := imm12.extractLsb 11 6
/-- `shamt5 = imm12[4:0]` (R59). -/
def shamt5 (imm12 : BitVec 12) : BitVec 5 := imm12.extractLsb 4 0
/-- `shtype7 = imm12[11:5]` (R59). -/
def shtype7 (imm12 : BitVec 12) : BitVec 7 := imm12.extractLsb 11 5
/-- FENCE `succ = imm12[3:0]` (R60). -/
def succField (imm12 : BitVec 12) : BitVec 4 := imm12.extractLsb 3 0
/-- FENCE `pred = imm12[7:4]` (R60). -/
def predField (imm12 : BitVec 12) : BitVec 4 := imm12.extractLsb 7 4
/-- FENCE `fm = imm12[11:8]` (R60). -/
def fmField (imm12 : BitVec 12) : BitVec 4 := imm12.extractLsb 11 8

/-- LOAD dispatch on funct3 (R83): 111 is Undefined. -/
def resolveLoad (f : IFields) : Option Instr :=
  match f.funct3 with
  | 0b000#3 => some (.lb f.rd f.rs1 f.imm12)
  | 0b001#3 => some (.lh f.rd f.rs1 f.imm12)
  | 0b010#3 => some (.lw f.rd f.rs1 f.imm12)
  | 0b011#3 => some (.ld f.rd f.rs1 f.imm12)
  | 0b100#3 => some (.lbu f.rd f.rs1 f.imm12)
  | 0b101#3 => some (.lhu f.rd f.rs1 f.imm12)
  | 0b110#3 => some (.lwu f.rd f.rs1 f.imm12)
  | _ => none

/-- "only funct3=000 is legal; decode succ/pred/fm as 4/4/4-bit sub-fields of imm" (R83, R92). -/
def resolveFence (f : IFields) : Option Instr :=
  match f.funct3 with
  | 0b000#3 => some (.fence (succField f.imm12) (predField f.imm12) (fmField f.imm12) f.rs1 f.rd)
  | _ => none

/-- OP-IMM dispatch on funct3, then on the 6-bit shift-type (R83, R99 to R101). -/
def resolveOpImm (f : IFields) : Option Instr :=
  match f.funct3 with
  | 0b000#3 => some (.addi f.rd f.rs1 f.imm12)
  | 0b001#3 => if shtype6 f.imm12 = 0b000000#6 then some (.slli f.rd f.rs1 (shamt6 f.imm12)) else none
  | 0b010#3 => some (.slti f.rd f.rs1 f.imm12)
  | 0b011#3 => some (.sltiu f.rd f.rs1 f.imm12)
  | 0b100#3 => some (.xori f.rd f.rs1 f.imm12)
  | 0b101#3 =>
    if shtype6 f.imm12 = 0b000000#6 then some (.srli f.rd f.rs1 (shamt6 f.imm12))
    else if shtype6 f.imm12 = 0b010000#6 then some (.srai f.rd f.rs1 (shamt6 f.imm12))
    else none
  | 0b110#3 => some (.ori f.rd f.rs1 f.imm12)
  | 0b111#3 => some (.andi f.rd f.rs1 f.imm12)
  | _ => none

/-- OP-IMM-32 dispatch on funct3, then on the 7-bit shift-type (R83, R102 to R105). -/
def resolveOpImm32 (f : IFields) : Option Instr :=
  match f.funct3 with
  | 0b000#3 => some (.addiw f.rd f.rs1 f.imm12)
  | 0b001#3 => if shtype7 f.imm12 = 0b0000000#7 then some (.slliw f.rd f.rs1 (shamt5 f.imm12)) else none
  | 0b101#3 =>
    if shtype7 f.imm12 = 0b0000000#7 then some (.srliw f.rd f.rs1 (shamt5 f.imm12))
    else if shtype7 f.imm12 = 0b0100000#7 then some (.sraiw f.rd f.rs1 (shamt5 f.imm12))
    else none
  | _ => none

/-- "Opcode = JALR: only funct3=000 is legal" (R83, R106). -/
def resolveJalr (f : IFields) : Option Instr :=
  match f.funct3 with
  | 0b000#3 => some (.jalr f.rd f.rs1 f.imm12)
  | _ => none

/-- "legal only when funct3=0 and rd=0 and rs1=0; imm=0 → ECALL, imm=1 → EBREAK", on the raw `imm12`
(R83, R107). -/
def resolveSystem (f : IFields) : Option Instr :=
  if f.funct3 = 0b000#3 ∧ f.rd = 0#5 ∧ f.rs1 = 0#5 then
    if f.imm12 = 0#12 then some .ecall
    else if f.imm12 = 1#12 then some .ebreak
    else none
  else none

/-- The I-type Instruction Resolver: "Dispatch by opcode then funct3" (R83). An opcode of another
format is Undefined. -/
def resolveI (w : Word) : Option Instr :=
  match groupOf (extractI w).opcode with
  | some .load => resolveLoad (extractI w)
  | some .fence => resolveFence (extractI w)
  | some .opImm => resolveOpImm (extractI w)
  | some .opImm32 => resolveOpImm32 (extractI w)
  | some .jalr => resolveJalr (extractI w)
  | some .system => resolveSystem (extractI w)
  | _ => none

/-! ## U-type extractor and resolver (42_u_type.md) -/

/-- What the U-type Field Extractor hands on (R110). -/
structure UFields where
  opcode : BitVec 7
  rd : RegIdx
  imm20 : BitVec 20
deriving DecidableEq, Repr

/-- The U-type Field Extractor (R55, R110). -/
def extractU (w : Word) : UFields where
  opcode := opcode w
  rd := rdField w
  imm20 := w.extractLsb 31 12

/-- `imm32 = imm20 ++ 0^12`: "the low 12 bits are forced to zero" (R63, R110). -/
def UFields.imm32 (f : UFields) : BitVec 32 := f.imm20 ++ 0#12

/-- The U-type Instruction Resolver: "Dispatch purely by opcode" (R111). -/
def resolveU (w : Word) : Option Instr :=
  match groupOf (extractU w).opcode with
  | some .lui => some (.lui (extractU w).rd (extractU w).imm32)
  | some .auipc => some (.auipc (extractU w).rd (extractU w).imm32)
  | _ => none

/-! ## S-type extractor and resolver (43_s_type.md) -/

/-- What the S-type Field Extractor hands on (R53, R114). -/
structure SFields where
  opcode : BitVec 7
  funct3 : BitVec 3
  rs1 : RegIdx
  rs2 : RegIdx
  immLo : BitVec 5
  immHi : BitVec 7
deriving DecidableEq, Repr

/-- The S-type Field Extractor (R114). -/
def extractS (w : Word) : SFields where
  opcode := opcode w
  funct3 := funct3 w
  rs1 := rs1Field w
  rs2 := rs2Field w
  immLo := w.extractLsb 11 7
  immHi := w.extractLsb 31 25

/-- "reassemble imm = (imm[11:5] << 5) | imm[4:0]" (R61, R114). -/
def SFields.imm (f : SFields) : BitVec 12 := f.immHi ++ f.immLo

/-- The S-type Instruction Resolver (R115). -/
def resolveS (w : Word) : Option Instr :=
  match groupOf (extractS w).opcode with
  | some .store =>
    match (extractS w).funct3 with
    | 0b000#3 => some (.sb (extractS w).rs1 (extractS w).rs2 (extractS w).imm)
    | 0b001#3 => some (.sh (extractS w).rs1 (extractS w).rs2 (extractS w).imm)
    | 0b010#3 => some (.sw (extractS w).rs1 (extractS w).rs2 (extractS w).imm)
    | 0b011#3 => some (.sd (extractS w).rs1 (extractS w).rs2 (extractS w).imm)
    | _ => none
  | _ => none

/-! ## R-type extractor and resolver (44_r_type.md) -/

/-- What the R-type Field Extractor hands on (R51, R120). -/
structure RFields where
  opcode : BitVec 7
  rd : RegIdx
  funct3 : BitVec 3
  rs1 : RegIdx
  rs2 : RegIdx
  funct7 : BitVec 7
deriving DecidableEq, Repr

/-- The R-type Field Extractor (R120). -/
def extractR (w : Word) : RFields where
  opcode := opcode w
  rd := rdField w
  funct3 := funct3 w
  rs1 := rs1Field w
  rs2 := rs2Field w
  funct7 := funct7 w

/-- The 64-bit-wide family, dispatched on (funct3, funct7) (R121, R122). -/
def resolveOp (f : RFields) : Option Instr :=
  match f.funct3, f.funct7 with
  | 0b000#3, 0b0000000#7 => some (.add f.rd f.rs1 f.rs2)
  | 0b000#3, 0b0100000#7 => some (.sub f.rd f.rs1 f.rs2)
  | 0b001#3, 0b0000000#7 => some (.sll f.rd f.rs1 f.rs2)
  | 0b010#3, 0b0000000#7 => some (.slt f.rd f.rs1 f.rs2)
  | 0b011#3, 0b0000000#7 => some (.sltu f.rd f.rs1 f.rs2)
  | 0b100#3, 0b0000000#7 => some (.xor f.rd f.rs1 f.rs2)
  | 0b101#3, 0b0000000#7 => some (.srl f.rd f.rs1 f.rs2)
  | 0b101#3, 0b0100000#7 => some (.sra f.rd f.rs1 f.rs2)
  | 0b110#3, 0b0000000#7 => some (.or f.rd f.rs1 f.rs2)
  | 0b111#3, 0b0000000#7 => some (.and f.rd f.rs1 f.rs2)
  | _, _ => none

/-- The word family: "there is no SLTW/XORW/ORW/ANDW" (R121, R122). -/
def resolveOp32 (f : RFields) : Option Instr :=
  match f.funct3, f.funct7 with
  | 0b000#3, 0b0000000#7 => some (.addw f.rd f.rs1 f.rs2)
  | 0b000#3, 0b0100000#7 => some (.subw f.rd f.rs1 f.rs2)
  | 0b001#3, 0b0000000#7 => some (.sllw f.rd f.rs1 f.rs2)
  | 0b101#3, 0b0000000#7 => some (.srlw f.rd f.rs1 f.rs2)
  | 0b101#3, 0b0100000#7 => some (.sraw f.rd f.rs1 f.rs2)
  | _, _ => none

/-- The R-type Instruction Resolver: "Two opcode families" (R121). -/
def resolveR (w : Word) : Option Instr :=
  match groupOf (extractR w).opcode with
  | some .op => resolveOp (extractR w)
  | some .op32 => resolveOp32 (extractR w)
  | _ => none

/-! ## B-type extractor, immediate assembler and resolver (45_b_type.md) -/

/-- What the B-type Field Extractor hands on: the scattered fragments (R54, R139). -/
structure BFields where
  opcode : BitVec 7
  funct3 : BitVec 3
  rs1 : RegIdx
  rs2 : RegIdx
  f11 : BitVec 1
  f4to1 : BitVec 4
  f10to5 : BitVec 6
  f12 : BitVec 1
deriving DecidableEq, Repr

/-- "bit[7]→imm[11], bits[11:8]→imm[4:1], bits[30:25]→imm[10:5], bit[31]→imm[12]" (R139). -/
def extractB (w : Word) : BFields where
  opcode := opcode w
  funct3 := funct3 w
  rs1 := rs1Field w
  rs2 := rs2Field w
  f11 := w.extractLsb 7 7
  f4to1 := w.extractLsb 11 8
  f10to5 := w.extractLsb 30 25
  f12 := w.extractLsb 31 31

/-- The Immediate Assembler, B part: `u13 = f12 ++ f11 ++ f10_5 ++ f4_1 ++ 0b0` (R62, R140). -/
def BFields.u13 (f : BFields) : BitVec 13 := f.f12 ++ f.f11 ++ f.f10to5 ++ f.f4to1 ++ 0b0#1

/-- The B-type Instruction Resolver (R141): funct3 010 and 011 are Undefined. -/
def resolveB (w : Word) : Option Instr :=
  match groupOf (extractB w).opcode with
  | some .branch =>
    match (extractB w).funct3 with
    | 0b000#3 => some (.beq (extractB w).rs1 (extractB w).rs2 (extractB w).u13)
    | 0b001#3 => some (.bne (extractB w).rs1 (extractB w).rs2 (extractB w).u13)
    | 0b100#3 => some (.blt (extractB w).rs1 (extractB w).rs2 (extractB w).u13)
    | 0b101#3 => some (.bge (extractB w).rs1 (extractB w).rs2 (extractB w).u13)
    | 0b110#3 => some (.bltu (extractB w).rs1 (extractB w).rs2 (extractB w).u13)
    | 0b111#3 => some (.bgeu (extractB w).rs1 (extractB w).rs2 (extractB w).u13)
    | _ => none
  | _ => none

/-! ## J-type extractor, immediate assembler and resolver (46_j_type.md) -/

/-- What the J-type Field Extractor hands on (R56, R149). -/
structure JFields where
  opcode : BitVec 7
  rd : RegIdx
  f20 : BitVec 1
  f10to1 : BitVec 10
  f11 : BitVec 1
  f19to12 : BitVec 8
deriving DecidableEq, Repr

/-- `fld20 = w[31:12]`, inside which the fragment indices of the source count (R149, C5). -/
def fld20 (w : Word) : BitVec 20 := w.extractLsb 31 12

/-- "bit[19]→imm[20], bits[18:9]→imm[10:1], bit[8]→imm[11], bits[7:0]→imm[19:12]" of fld20 (R149). -/
def extractJ (w : Word) : JFields where
  opcode := opcode w
  rd := rdField w
  f20 := (fld20 w).extractLsb 19 19
  f10to1 := (fld20 w).extractLsb 18 9
  f11 := (fld20 w).extractLsb 8 8
  f19to12 := (fld20 w).extractLsb 7 0

/-- The Immediate Assembler, J part: `u21 = f20 ++ f19_12 ++ f11 ++ f10_1 ++ 0b0` (R64, R150). -/
def JFields.u21 (f : JFields) : BitVec 21 := f.f20 ++ f.f19to12 ++ f.f11 ++ f.f10to1 ++ 0b0#1

/-- The J-type Instruction Resolver: "Single mnemonic JAL" (R151). -/
def resolveJ (w : Word) : Option Instr :=
  match groupOf (extractJ w).opcode with
  | some .jal => some (.jal (extractJ w).rd (extractJ w).u21)
  | _ => none

/-! ## Resolver Multiplexer (47_resolver_mux.md) -/

/-- The resolver of a format, its extractor included (R154). -/
def resolve : Format → Word → Option Instr
  | .R => resolveR
  | .I => resolveI
  | .S => resolveS
  | .B => resolveB
  | .U => resolveU
  | .J => resolveJ

/-- The decoder's function up to the shape of its result: the classifier selects one resolver; `none`
is the one error kind, UndefinedInstruction (R154, R163). -/
def decodeWord (w : Word) : Option Instr :=
  match classify (opcode w) with
  | none => none
  | some f => resolve f w

/-- The multiplexer in hardware terms: all six candidates are there, the select input passes one of
them and forces Undefined when it says none (R155). -/
def muxSelect (sel : Option Format) (cR cI cS cB cU cJ : Option Instr) : Option Instr :=
  match sel with
  | some .R => cR
  | some .I => cI
  | some .S => cS
  | some .B => cB
  | some .U => cU
  | some .J => cJ
  | none => none

/-- The parallel form: every extractor and resolver pair evaluates on every word (R81, R155). -/
def decodeParallel (w : Word) : Option Instr :=
  muxSelect (classify (opcode w)) (resolveR w) (resolveI w) (resolveS w) (resolveB w) (resolveU w) (resolveJ w)

/-- "the multiplexer could equally be an OR of the candidates" (R155). -/
def decodeOr (w : Word) : Option Instr :=
  (resolveR w).or ((resolveI w).or ((resolveS w).or ((resolveB w).or ((resolveU w).or (resolveJ w)))))

/-! ## Bytes (20_memory.md R37, R38) -/

/-- `w = b0 | b1 << 8 | b2 << 16 | b3 << 24`, `b0` at the lowest stream offset (R38). -/
def wordOfBytes (b0 b1 b2 b3 : Byte) : Word := b3 ++ b2 ++ b1 ++ b0

/-- The four stream bytes of a word, lowest offset first (R38). -/
def bytesOfWord (w : Word) : List Byte :=
  [w.extractLsb 7 0, w.extractLsb 15 8, w.extractLsb 23 16, w.extractLsb 31 24]

/-- Why a sequence of bytes gives no instruction: the spec's one error kind (R163), or fewer than four
bytes, which are no instruction word at all (R29 "exactly 32 bits"). -/
inductive Reject where
  | undefinedInstruction
  | shortInput
deriving DecidableEq, Repr

/-- Decode the first word of a byte sequence and give back the bytes after it. Total on any bytes. -/
def decodeBytes : List Byte → Except Reject (Instr × List Byte)
  | b0 :: b1 :: b2 :: b3 :: rest =>
    match decodeWord (wordOfBytes b0 b1 b2 b3) with
    | some i => .ok (i, rest)
    | none => .error .undefinedInstruction
  | _ => .error .shortInput

/-- The instruction word of an opcode-table word: bits at or above `nbits` are zero. -/
def tableWord (nbits w : Nat) : Word := BitVec.ofNat 32 (w % 2 ^ nbits)

/-- The instruction the decoder reads from the bytes of an opcode-table word, laid out in the
little-endian order of the instruction stream. -/
def decodeTableWord (nbits w : Nat) : Option Instr :=
  match decodeBytes (bytesOfWord (tableWord nbits w)) with
  | .ok (i, _) => some i
  | .error _ => none

/-! ## Encoder (30_encoding.md section 1) -/

/-- R format: `funct7 | rs2 | rs1 | funct3 | rd | opcode` (R51). -/
def encodeR (f7 : BitVec 7) (f3 : BitVec 3) (op : BitVec 7) (rd rs1 rs2 : RegIdx) : Word :=
  f7 ++ rs2 ++ rs1 ++ f3 ++ rd ++ op

/-- I format: `imm12 | rs1 | funct3 | rd | opcode` (R52). -/
def encodeI (f3 : BitVec 3) (op : BitVec 7) (rd rs1 : RegIdx) (imm : BitVec 12) : Word :=
  imm ++ rs1 ++ f3 ++ rd ++ op

/-- S format: `imm[11:5] | rs2 | rs1 | funct3 | imm[4:0] | opcode` (R53). -/
def encodeS (f3 : BitVec 3) (op : BitVec 7) (rs1 rs2 : RegIdx) (imm : BitVec 12) : Word :=
  imm.extractLsb 11 5 ++ rs2 ++ rs1 ++ f3 ++ imm.extractLsb 4 0 ++ op

/-- B format: `imm[12] | imm[10:5] | rs2 | rs1 | funct3 | imm[4:1] | imm[11] | opcode` (R54). -/
def encodeB (f3 : BitVec 3) (op : BitVec 7) (rs1 rs2 : RegIdx) (imm : BitVec 13) : Word :=
  imm.extractLsb 12 12 ++ imm.extractLsb 10 5 ++ rs2 ++ rs1 ++ f3 ++ imm.extractLsb 4 1 ++ imm.extractLsb 11 11 ++ op

/-- U format: `imm[31:12] | rd | opcode` (R55). -/
def encodeU (op : BitVec 7) (rd : RegIdx) (imm : BitVec 32) : Word :=
  imm.extractLsb 31 12 ++ rd ++ op

/-- J format: `imm[20] | imm[10:1] | imm[11] | imm[19:12] | rd | opcode` (R56). -/
def encodeJ (op : BitVec 7) (rd : RegIdx) (imm : BitVec 21) : Word :=
  imm.extractLsb 20 20 ++ imm.extractLsb 10 1 ++ imm.extractLsb 11 11 ++ imm.extractLsb 19 12 ++ rd ++ op

/-- The word of a well-formed instruction (R67 and the Encoding clause of each instruction's rule). -/
def encode : Instr → Word
  | .lb rd rs1 imm => encodeI 0b000#3 0b0000011#7 rd rs1 imm
  | .lh rd rs1 imm => encodeI 0b001#3 0b0000011#7 rd rs1 imm
  | .lw rd rs1 imm => encodeI 0b010#3 0b0000011#7 rd rs1 imm
  | .lbu rd rs1 imm => encodeI 0b100#3 0b0000011#7 rd rs1 imm
  | .lhu rd rs1 imm => encodeI 0b101#3 0b0000011#7 rd rs1 imm
  | .lwu rd rs1 imm => encodeI 0b110#3 0b0000011#7 rd rs1 imm
  | .ld rd rs1 imm => encodeI 0b011#3 0b0000011#7 rd rs1 imm
  | .fence succ pred fm rs1 rd => encodeI 0b000#3 0b0001111#7 rd rs1 (fm ++ pred ++ succ)
  | .addi rd rs1 imm => encodeI 0b000#3 0b0010011#7 rd rs1 imm
  | .slti rd rs1 imm => encodeI 0b010#3 0b0010011#7 rd rs1 imm
  | .sltiu rd rs1 imm => encodeI 0b011#3 0b0010011#7 rd rs1 imm
  | .xori rd rs1 imm => encodeI 0b100#3 0b0010011#7 rd rs1 imm
  | .ori rd rs1 imm => encodeI 0b110#3 0b0010011#7 rd rs1 imm
  | .andi rd rs1 imm => encodeI 0b111#3 0b0010011#7 rd rs1 imm
  | .slli rd rs1 shamt => encodeI 0b001#3 0b0010011#7 rd rs1 (0b000000#6 ++ shamt)
  | .srli rd rs1 shamt => encodeI 0b101#3 0b0010011#7 rd rs1 (0b000000#6 ++ shamt)
  | .srai rd rs1 shamt => encodeI 0b101#3 0b0010011#7 rd rs1 (0b010000#6 ++ shamt)
  | .addiw rd rs1 imm => encodeI 0b000#3 0b0011011#7 rd rs1 imm
  | .slliw rd rs1 shamt => encodeI 0b001#3 0b0011011#7 rd rs1 (0b0000000#7 ++ shamt)
  | .srliw rd rs1 shamt => encodeI 0b101#3 0b0011011#7 rd rs1 (0b0000000#7 ++ shamt)
  | .sraiw rd rs1 shamt => encodeI 0b101#3 0b0011011#7 rd rs1 (0b0100000#7 ++ shamt)
  | .jalr rd rs1 imm => encodeI 0b000#3 0b1100111#7 rd rs1 imm
  | .ecall => encodeI 0b000#3 0b1110011#7 0#5 0#5 0#12
  | .ebreak => encodeI 0b000#3 0b1110011#7 0#5 0#5 1#12
  | .lui rd imm => encodeU 0b0110111#7 rd imm
  | .auipc rd imm => encodeU 0b0010111#7 rd imm
  | .sb rs1 rs2 imm => encodeS 0b000#3 0b0100011#7 rs1 rs2 imm
  | .sh rs1 rs2 imm => encodeS 0b001#3 0b0100011#7 rs1 rs2 imm
  | .sw rs1 rs2 imm => encodeS 0b010#3 0b0100011#7 rs1 rs2 imm
  | .sd rs1 rs2 imm => encodeS 0b011#3 0b0100011#7 rs1 rs2 imm
  | .add rd rs1 rs2 => encodeR 0b0000000#7 0b000#3 0b0110011#7 rd rs1 rs2
  | .sub rd rs1 rs2 => encodeR 0b0100000#7 0b000#3 0b0110011#7 rd rs1 rs2
  | .sll rd rs1 rs2 => encodeR 0b0000000#7 0b001#3 0b0110011#7 rd rs1 rs2
  | .slt rd rs1 rs2 => encodeR 0b0000000#7 0b010#3 0b0110011#7 rd rs1 rs2
  | .sltu rd rs1 rs2 => encodeR 0b0000000#7 0b011#3 0b0110011#7 rd rs1 rs2
  | .xor rd rs1 rs2 => encodeR 0b0000000#7 0b100#3 0b0110011#7 rd rs1 rs2
  | .srl rd rs1 rs2 => encodeR 0b0000000#7 0b101#3 0b0110011#7 rd rs1 rs2
  | .sra rd rs1 rs2 => encodeR 0b0100000#7 0b101#3 0b0110011#7 rd rs1 rs2
  | .or rd rs1 rs2 => encodeR 0b0000000#7 0b110#3 0b0110011#7 rd rs1 rs2
  | .and rd rs1 rs2 => encodeR 0b0000000#7 0b111#3 0b0110011#7 rd rs1 rs2
  | .addw rd rs1 rs2 => encodeR 0b0000000#7 0b000#3 0b0111011#7 rd rs1 rs2
  | .subw rd rs1 rs2 => encodeR 0b0100000#7 0b000#3 0b0111011#7 rd rs1 rs2
  | .sllw rd rs1 rs2 => encodeR 0b0000000#7 0b001#3 0b0111011#7 rd rs1 rs2
  | .srlw rd rs1 rs2 => encodeR 0b0000000#7 0b101#3 0b0111011#7 rd rs1 rs2
  | .sraw rd rs1 rs2 => encodeR 0b0100000#7 0b101#3 0b0111011#7 rd rs1 rs2
  | .beq rs1 rs2 imm => encodeB 0b000#3 0b1100011#7 rs1 rs2 imm
  | .bne rs1 rs2 imm => encodeB 0b001#3 0b1100011#7 rs1 rs2 imm
  | .blt rs1 rs2 imm => encodeB 0b100#3 0b1100011#7 rs1 rs2 imm
  | .bge rs1 rs2 imm => encodeB 0b101#3 0b1100011#7 rs1 rs2 imm
  | .bltu rs1 rs2 imm => encodeB 0b110#3 0b1100011#7 rs1 rs2 imm
  | .bgeu rs1 rs2 imm => encodeB 0b111#3 0b1100011#7 rs1 rs2 imm
  | .jal rd imm => encodeJ 0b1101111#7 rd imm

/-! ## Immediates as integers, and the inverse maps (R58 to R66) -/

/-- `imm_I = sint_12(imm12)` of a word (R58). -/
def immI (w : Word) : Int := (imm12Field w).toInt
/-- `imm_S = sint_12(w[31:25] ++ w[11:7])` (R61). -/
def immS (w : Word) : Int := (extractS w).imm.toInt
/-- `imm_B = sint_13(u13)` (R62, R140). -/
def immB (w : Word) : Int := (extractB w).u13.toInt
/-- `imm_U = sint_32(w[31:12] ++ 0^12)` (R63, R110). -/
def immU (w : Word) : Int := (extractU w).imm32.toInt
/-- `imm_J = sint_21(u21)` (R64, R150). -/
def immJ (w : Word) : Int := (extractJ w).u21.toInt

/-- `scatter_B(v)`: the B immediate bits of the offset `v` at their places in a word that is zero
elsewhere (R66). -/
def scatterB (v : Int) : Word :=
  let u := BitVec.ofInt 13 v
  u.extractLsb 12 12 ++ u.extractLsb 10 5 ++ 0#13 ++ u.extractLsb 4 1 ++ u.extractLsb 11 11 ++ 0#7

/-- `scatter_J(v)` (R66). -/
def scatterJ (v : Int) : Word :=
  let u := BitVec.ofInt 21 v
  u.extractLsb 20 20 ++ u.extractLsb 10 1 ++ u.extractLsb 11 11 ++ u.extractLsb 19 12 ++ 0#12

end Sys2Proof
end

