-- ==== Sys2Proof/Machine/State.lean ====
section
/-! DEFINITION. The state of the model: the decoder's interface and, beside it, the caller's two lists.
The block itself holds no state (10_state.md R20, 70_reset_and_hazards.md R174). -/

namespace Sys2Proof.Machine

/-- Faults: none, and nobody raises one. "In the terms of the reader's modelling guide it is neither a
fault, nor a stuck state, nor a refusal" (R165): Undefined is an ordinary result. Log entry 4; safe,
since no step stops where the hardware goes on. -/
inductive Fault where
deriving DecidableEq, Repr

/-- Refusals. -/
inductive Refusal where
  /-- Raised by an arm of `exec` whose instruction has no meaning yet; no arm does. Safe. -/
  | notModelled (mnemonic : String)
deriving DecidableEq, Repr

/-- The interface of the decoder, and the caller beside it.

* `instrI`: the input port `instr_i`, the word now presented (R29, R33).
* `result`: the Decode Result now on the outputs (R30, R35); the output ports are `State.ports`.
* `stream`: the caller's words not presented yet, in order (R161, R176; log entry 1).
* `delivered`: the results the caller has taken, oldest first, one per word presented (R176; log
  entry 1). -/
structure State where
  instrI : Word
  result : DecodeResult
  stream : List Word
  delivered : List DecodeResult
deriving DecidableEq, Repr

/-- After reset. The block has no reset input and no reset state (R36, R174); `instrI` is what the caller
happens to drive, here 0 (log entry 2, DESIGN CHOICE); `result` is then `decode(instr_i)` as R174 says,
which for that word is Undefined (R71 item 1); the caller has presented and taken nothing yet. -/
def State.reset : State where
  instrI := 0#32
  result := .undefined
  stream := []
  delivered := []

end Sys2Proof.Machine
end

