-- ==== Sys2Proof/Machine/Ops.lean ====
section
/-! DEFINITION. The named operations on the interface. The block has no registers, memory, flags or
program counter to operate on (R22 to R28); its one action is to put a result on its outputs. -/

namespace Sys2Proof.Machine

/-- The outcome of a step or of a meaning. -/
abbrev Res := Host.Outcome State Fault Refusal

/-- Put a Decode Result on the outputs, all of it at once (R30, R158). Nothing else changes (R21, R41). -/
def State.drive (s : State) (r : DecodeResult) : State := { s with result := r }

/-- Report a mnemonic and its complete operand list: what decoding an instruction does (R20, R154, R158). -/
def report (m : Mnemonic) (ops : List Operand) (s : State) : Res := .next (s.drive (.decoded m ops))

/-- What stands in the place of taking an exception: "On Undefined the decoder's only action is to deliver
that result: no state changes (there is none), no mode changes, no vector is consulted" (R169). The
result carries nothing (R163). There is nothing to return from (R170), so there is no return beside it. -/
def reportUndefined (s : State) : Res := .next (s.drive .undefined)

/-- The caller presents its next word at `instr_i`; with no word left it holds the input steady (R176,
R178; log entry 3). -/
def State.present (s : State) : State :=
  match s.stream with
  | [] => s
  | w :: ws => { s with instrI := w, stream := ws }

/-- The caller takes the result now on the outputs (R176 "one DecodeResult per word"). -/
def State.collect (s : State) : State := { s with delivered := s.delivered ++ [s.result] }

/-- `collect` after an evaluation that answered a next state. -/
def collectNext : Res → Res
  | .next s => .next s.collect
  | .fault r => .fault r
  | .refused r => .refused r

end Sys2Proof.Machine
end

