-- ==== Sys2Proof/Machine/Caller.lean ====
section
/-! DEFINITION. The caller's side of the interface: the byte stream and its split into words (20_memory.md
R37, R38; 70_reset_and_hazards.md R176). It binds the caller, not the decoder. -/

namespace Sys2Proof

/-- The words of a little-endian instruction stream, in order: "split the stream into 32-bit words itself"
(R176). One to three bytes left over are no word ("exactly 32 bits", R29) and are not presented (log
entry 7). -/
def wordsOfStream : List Byte → List Word
  | b0 :: b1 :: b2 :: b3 :: rest => wordOfBytes b0 b1 b2 b3 :: wordsOfStream rest
  | _ => []

namespace Machine

/-- `s` with the byte stream as what the caller will present from now on. -/
def State.withStream (s : State) (bytes : List Byte) : State := { s with stream := wordsOfStream bytes }

/-- `s` with `w` in the place of the next word the caller presents. -/
def State.withNextWord (s : State) (w : Word) : State := { s with stream := w :: s.stream.tail }

end Machine

end Sys2Proof
end

