-- ==== Sys2Proof/Machine/Operands.lean ====
section
/-! DEFINITION. Every operand list the decoder reports (47_resolver_mux.md R157): its shape, the names in
order, and the list built from the fields. -/

namespace Sys2Proof

/-- The shapes of an operand list: the rows of R157, the two shift widths apart. -/
inductive OperandForm where
  | rdRs1ImmI | rdRs1Shamt6 | rdRs1Shamt5 | succPredFm | none | rdImmU | rs1Rs2ImmS | rdRs1Rs2 | rs1Rs2ImmB | rdImmJ
deriving DecidableEq, Repr

/-- `rd, rs1, imm` with `imm_I` signed: loads, ADDI to ANDI, ADDIW, JALR. -/
def rdRs1ImmI (rd rs1 : RegIdx) (imm : BitVec 12) : List Operand := [.reg rd, .reg rs1, .imm imm.toInt]

/-- `rd, rs1, shamt` with `shamt6` unsigned: SLLI, SRLI, SRAI. -/
def rdRs1Shamt6 (rd rs1 : RegIdx) (shamt : BitVec 6) : List Operand := [.reg rd, .reg rs1, .imm (Int.ofNat shamt.toNat)]

/-- `rd, rs1, shamt` with `shamt5` unsigned: SLLIW, SRLIW, SRAIW. -/
def rdRs1Shamt5 (rd rs1 : RegIdx) (shamt : BitVec 5) : List Operand := [.reg rd, .reg rs1, .imm (Int.ofNat shamt.toNat)]

/-- `succ, pred, fm`, each unsigned: FENCE. -/
def succPredFm (succ pred fm : BitVec 4) : List Operand :=
  [.imm (Int.ofNat succ.toNat), .imm (Int.ofNat pred.toNat), .imm (Int.ofNat fm.toNat)]

/-- The empty list: ECALL, EBREAK. -/
def noOperands : List Operand := []

/-- `rd, imm` with `imm_U` signed: LUI, AUIPC. -/
def rdImmU (rd : RegIdx) (imm : BitVec 32) : List Operand := [.reg rd, .imm imm.toInt]

/-- `rs1, rs2, imm` with `imm_S` signed: stores. -/
def rs1Rs2ImmS (rs1 rs2 : RegIdx) (imm : BitVec 12) : List Operand := [.reg rs1, .reg rs2, .imm imm.toInt]

/-- `rd, rs1, rs2`: the 15 R-type mnemonics. -/
def rdRs1Rs2 (rd rs1 rs2 : RegIdx) : List Operand := [.reg rd, .reg rs1, .reg rs2]

/-- `rs1, rs2, imm` with `imm_B` signed: all six branches (R141, C7). -/
def rs1Rs2ImmB (rs1 rs2 : RegIdx) (imm : BitVec 13) : List Operand := [.reg rs1, .reg rs2, .imm imm.toInt]

/-- `rd, imm` with `imm_J` signed: JAL. -/
def rdImmJ (rd : RegIdx) (imm : BitVec 21) : List Operand := [.reg rd, .imm imm.toInt]

/-- The operand names of a shape, in result order (R157). -/
def OperandForm.names : OperandForm → List OperandName
  | .rdRs1ImmI => [.rd, .rs1, .imm]
  | .rdRs1Shamt6 => [.rd, .rs1, .shamt]
  | .rdRs1Shamt5 => [.rd, .rs1, .shamt]
  | .succPredFm => [.succ, .pred, .fm]
  | .none => []
  | .rdImmU => [.rd, .imm]
  | .rs1Rs2ImmS => [.rs1, .rs2, .imm]
  | .rdRs1Rs2 => [.rd, .rs1, .rs2]
  | .rs1Rs2ImmB => [.rs1, .rs2, .imm]
  | .rdImmJ => [.rd, .imm]

/-- The shape of a mnemonic's operand list: it "depends on the mnemonic alone" (R157). -/
def Mnemonic.form : Mnemonic → OperandForm
  | .LB | .LH | .LW | .LBU | .LHU | .LWU | .LD => .rdRs1ImmI
  | .FENCE => .succPredFm
  | .ADDI | .SLTI | .SLTIU | .XORI | .ORI | .ANDI => .rdRs1ImmI
  | .SLLI | .SRLI | .SRAI => .rdRs1Shamt6
  | .ADDIW => .rdRs1ImmI
  | .SLLIW | .SRLIW | .SRAIW => .rdRs1Shamt5
  | .JALR => .rdRs1ImmI
  | .ECALL | .EBREAK => .none
  | .LUI | .AUIPC => .rdImmU
  | .SB | .SH | .SW | .SD => .rs1Rs2ImmS
  | .ADD | .SUB | .SLL | .SLT | .SLTU | .XOR | .SRL | .SRA | .OR | .AND => .rdRs1Rs2
  | .ADDW | .SUBW | .SLLW | .SRLW | .SRAW => .rdRs1Rs2
  | .BEQ | .BNE | .BLT | .BGE | .BLTU | .BGEU => .rs1Rs2ImmB
  | .JAL => .rdImmJ

/-- The operand list of a shape read straight from the word: the Decode clause of each instruction's rule
(R85 to R152), independent of the resolvers. -/
def OperandForm.ofWord (w : Word) : OperandForm → List Operand
  | .rdRs1ImmI => [.reg (w.extractLsb 11 7), .reg (w.extractLsb 19 15), .imm (w.extractLsb 31 20).toInt]
  | .rdRs1Shamt6 =>
    [.reg (w.extractLsb 11 7), .reg (w.extractLsb 19 15), .imm (Int.ofNat (w.extractLsb 25 20).toNat)]
  | .rdRs1Shamt5 =>
    [.reg (w.extractLsb 11 7), .reg (w.extractLsb 19 15), .imm (Int.ofNat (w.extractLsb 24 20).toNat)]
  | .succPredFm =>
    [.imm (Int.ofNat (w.extractLsb 23 20).toNat), .imm (Int.ofNat (w.extractLsb 27 24).toNat),
      .imm (Int.ofNat (w.extractLsb 31 28).toNat)]
  | .none => []
  | .rdImmU => [.reg (w.extractLsb 11 7), .imm (w &&& 0xfffff000#32).toInt]
  | .rs1Rs2ImmS =>
    [.reg (w.extractLsb 19 15), .reg (w.extractLsb 24 20), .imm (w.extractLsb 31 25 ++ w.extractLsb 11 7).toInt]
  | .rdRs1Rs2 => [.reg (w.extractLsb 11 7), .reg (w.extractLsb 19 15), .reg (w.extractLsb 24 20)]
  | .rs1Rs2ImmB =>
    [.reg (w.extractLsb 19 15), .reg (w.extractLsb 24 20),
      .imm (w.extractLsb 31 31 ++ w.extractLsb 7 7 ++ w.extractLsb 30 25 ++ w.extractLsb 11 8 ++ 0#1).toInt]
  | .rdImmJ =>
    [.reg (w.extractLsb 11 7),
      .imm (w.extractLsb 31 31 ++ w.extractLsb 19 12 ++ w.extractLsb 20 20 ++ w.extractLsb 30 21 ++ 0#1).toInt]

end Sys2Proof
end

