-- ==== Sys2Proof/Machine/BType.lean ====
section
/-! DEFINITION. The meanings of the B-type instructions (spec 45_b_type.md): what the decoder does with each. What an
instruction would compute when executed is out of scope (R7, R8). -/

namespace Sys2Proof.Machine

/-- BEQ (R143): report the mnemonic and `rs1, rs2, imm`. -/
def execBeq (rs1 rs2 : RegIdx) (imm : BitVec 13) (s : State) : Res := report .BEQ (rs1Rs2ImmB rs1 rs2 imm) s

/-- BNE (R144): report the mnemonic and `rs1, rs2, imm`. -/
def execBne (rs1 rs2 : RegIdx) (imm : BitVec 13) (s : State) : Res := report .BNE (rs1Rs2ImmB rs1 rs2 imm) s

/-- BLT (R145): report the mnemonic and `rs1, rs2, imm`. -/
def execBlt (rs1 rs2 : RegIdx) (imm : BitVec 13) (s : State) : Res := report .BLT (rs1Rs2ImmB rs1 rs2 imm) s

/-- BGE (R146): report the mnemonic and `rs1, rs2, imm`. -/
def execBge (rs1 rs2 : RegIdx) (imm : BitVec 13) (s : State) : Res := report .BGE (rs1Rs2ImmB rs1 rs2 imm) s

/-- BLTU (R147): report the mnemonic and `rs1, rs2, imm`. -/
def execBltu (rs1 rs2 : RegIdx) (imm : BitVec 13) (s : State) : Res := report .BLTU (rs1Rs2ImmB rs1 rs2 imm) s

/-- BGEU (R148): report the mnemonic and `rs1, rs2, imm`. -/
def execBgeu (rs1 rs2 : RegIdx) (imm : BitVec 13) (s : State) : Res := report .BGEU (rs1Rs2ImmB rs1 rs2 imm) s

end Sys2Proof.Machine
end

