-- ==== Sys2Proof/Machine/IType.lean ====
section
/-! DEFINITION. The meanings of the I-type instructions (spec 41_i_type.md): what the decoder does with each. What an
instruction would compute when executed is out of scope (R7, R8). -/

namespace Sys2Proof.Machine

/-- LB (R85): report the mnemonic and `rd, rs1, imm`. -/
def execLb (rd rs1 : RegIdx) (imm : BitVec 12) (s : State) : Res := report .LB (rdRs1ImmI rd rs1 imm) s

/-- LH (R86): report the mnemonic and `rd, rs1, imm`. -/
def execLh (rd rs1 : RegIdx) (imm : BitVec 12) (s : State) : Res := report .LH (rdRs1ImmI rd rs1 imm) s

/-- LW (R87): report the mnemonic and `rd, rs1, imm`. -/
def execLw (rd rs1 : RegIdx) (imm : BitVec 12) (s : State) : Res := report .LW (rdRs1ImmI rd rs1 imm) s

/-- LBU (R88): report the mnemonic and `rd, rs1, imm`. -/
def execLbu (rd rs1 : RegIdx) (imm : BitVec 12) (s : State) : Res := report .LBU (rdRs1ImmI rd rs1 imm) s

/-- LHU (R89): report the mnemonic and `rd, rs1, imm`. -/
def execLhu (rd rs1 : RegIdx) (imm : BitVec 12) (s : State) : Res := report .LHU (rdRs1ImmI rd rs1 imm) s

/-- LWU (R90): report the mnemonic and `rd, rs1, imm`. -/
def execLwu (rd rs1 : RegIdx) (imm : BitVec 12) (s : State) : Res := report .LWU (rdRs1ImmI rd rs1 imm) s

/-- LD (R91): report the mnemonic and `rd, rs1, imm`. -/
def execLd (rd rs1 : RegIdx) (imm : BitVec 12) (s : State) : Res := report .LD (rdRs1ImmI rd rs1 imm) s

/-- FENCE (R92): report the mnemonic and `succ, pred, fm`. rd and rs1 are neither checked nor reported. -/
def execFence (succ pred fm : BitVec 4) (s : State) : Res := report .FENCE (succPredFm succ pred fm) s

/-- ADDI (R93): report the mnemonic and `rd, rs1, imm`. -/
def execAddi (rd rs1 : RegIdx) (imm : BitVec 12) (s : State) : Res := report .ADDI (rdRs1ImmI rd rs1 imm) s

/-- SLTI (R94): report the mnemonic and `rd, rs1, imm`. -/
def execSlti (rd rs1 : RegIdx) (imm : BitVec 12) (s : State) : Res := report .SLTI (rdRs1ImmI rd rs1 imm) s

/-- SLTIU (R95): report the mnemonic and `rd, rs1, imm`. -/
def execSltiu (rd rs1 : RegIdx) (imm : BitVec 12) (s : State) : Res := report .SLTIU (rdRs1ImmI rd rs1 imm) s

/-- XORI (R96): report the mnemonic and `rd, rs1, imm`. -/
def execXori (rd rs1 : RegIdx) (imm : BitVec 12) (s : State) : Res := report .XORI (rdRs1ImmI rd rs1 imm) s

/-- ORI (R97): report the mnemonic and `rd, rs1, imm`. -/
def execOri (rd rs1 : RegIdx) (imm : BitVec 12) (s : State) : Res := report .ORI (rdRs1ImmI rd rs1 imm) s

/-- ANDI (R98): report the mnemonic and `rd, rs1, imm`. -/
def execAndi (rd rs1 : RegIdx) (imm : BitVec 12) (s : State) : Res := report .ANDI (rdRs1ImmI rd rs1 imm) s

/-- SLLI (R99): report the mnemonic and `rd, rs1, shamt`. -/
def execSlli (rd rs1 : RegIdx) (shamt : BitVec 6) (s : State) : Res := report .SLLI (rdRs1Shamt6 rd rs1 shamt) s

/-- SRLI (R100): report the mnemonic and `rd, rs1, shamt`. -/
def execSrli (rd rs1 : RegIdx) (shamt : BitVec 6) (s : State) : Res := report .SRLI (rdRs1Shamt6 rd rs1 shamt) s

/-- SRAI (R101): report the mnemonic and `rd, rs1, shamt`. -/
def execSrai (rd rs1 : RegIdx) (shamt : BitVec 6) (s : State) : Res := report .SRAI (rdRs1Shamt6 rd rs1 shamt) s

/-- ADDIW (R102): report the mnemonic and `rd, rs1, imm`. -/
def execAddiw (rd rs1 : RegIdx) (imm : BitVec 12) (s : State) : Res := report .ADDIW (rdRs1ImmI rd rs1 imm) s

/-- SLLIW (R103): report the mnemonic and `rd, rs1, shamt`. -/
def execSlliw (rd rs1 : RegIdx) (shamt : BitVec 5) (s : State) : Res := report .SLLIW (rdRs1Shamt5 rd rs1 shamt) s

/-- SRLIW (R104): report the mnemonic and `rd, rs1, shamt`. -/
def execSrliw (rd rs1 : RegIdx) (shamt : BitVec 5) (s : State) : Res := report .SRLIW (rdRs1Shamt5 rd rs1 shamt) s

/-- SRAIW (R105): report the mnemonic and `rd, rs1, shamt`. -/
def execSraiw (rd rs1 : RegIdx) (shamt : BitVec 5) (s : State) : Res := report .SRAIW (rdRs1Shamt5 rd rs1 shamt) s

/-- JALR (R106): report the mnemonic and `rd, rs1, imm`. The offset may be odd; no target is formed. -/
def execJalr (rd rs1 : RegIdx) (imm : BitVec 12) (s : State) : Res := report .JALR (rdRs1ImmI rd rs1 imm) s

/-- ECALL (R108): report the mnemonic and `no operand`. It "does not trap, call or signal anything". -/
def execEcall (s : State) : Res := report .ECALL noOperands s

/-- EBREAK (R109): report the mnemonic and `no operand`. It is only named (R173). -/
def execEbreak (s : State) : Res := report .EBREAK noOperands s

end Sys2Proof.Machine
end

