-- ==== Sys2Proof/Machine/JType.lean ====
section
/-! DEFINITION. The meanings of the J-type instructions (spec 46_j_type.md): what the decoder does with each. What an
instruction would compute when executed is out of scope (R7, R8). -/

namespace Sys2Proof.Machine

/-- JAL (R152): report the mnemonic and `rd, imm`. The offset, never a target. -/
def execJal (rd : RegIdx) (imm : BitVec 21) (s : State) : Res := report .JAL (rdImmJ rd imm) s

end Sys2Proof.Machine
end

