-- ==== Sys2Proof/Machine/RType.lean ====
section
/-! DEFINITION. The meanings of the R-type instructions (spec 44_r_type.md): what the decoder does with each. What an
instruction would compute when executed is out of scope (R7, R8). -/

namespace Sys2Proof.Machine

/-- ADD (R124): report the mnemonic and `rd, rs1, rs2`. -/
def execAdd (rd rs1 rs2 : RegIdx) (s : State) : Res := report .ADD (rdRs1Rs2 rd rs1 rs2) s

/-- SUB (R125): report the mnemonic and `rd, rs1, rs2`. -/
def execSub (rd rs1 rs2 : RegIdx) (s : State) : Res := report .SUB (rdRs1Rs2 rd rs1 rs2) s

/-- SLL (R126): report the mnemonic and `rd, rs1, rs2`. -/
def execSll (rd rs1 rs2 : RegIdx) (s : State) : Res := report .SLL (rdRs1Rs2 rd rs1 rs2) s

/-- SLT (R127): report the mnemonic and `rd, rs1, rs2`. -/
def execSlt (rd rs1 rs2 : RegIdx) (s : State) : Res := report .SLT (rdRs1Rs2 rd rs1 rs2) s

/-- SLTU (R128): report the mnemonic and `rd, rs1, rs2`. -/
def execSltu (rd rs1 rs2 : RegIdx) (s : State) : Res := report .SLTU (rdRs1Rs2 rd rs1 rs2) s

/-- XOR (R129): report the mnemonic and `rd, rs1, rs2`. -/
def execXor (rd rs1 rs2 : RegIdx) (s : State) : Res := report .XOR (rdRs1Rs2 rd rs1 rs2) s

/-- SRL (R130): report the mnemonic and `rd, rs1, rs2`. -/
def execSrl (rd rs1 rs2 : RegIdx) (s : State) : Res := report .SRL (rdRs1Rs2 rd rs1 rs2) s

/-- SRA (R131): report the mnemonic and `rd, rs1, rs2`. -/
def execSra (rd rs1 rs2 : RegIdx) (s : State) : Res := report .SRA (rdRs1Rs2 rd rs1 rs2) s

/-- OR (R132): report the mnemonic and `rd, rs1, rs2`. -/
def execOr (rd rs1 rs2 : RegIdx) (s : State) : Res := report .OR (rdRs1Rs2 rd rs1 rs2) s

/-- AND (R133): report the mnemonic and `rd, rs1, rs2`. -/
def execAnd (rd rs1 rs2 : RegIdx) (s : State) : Res := report .AND (rdRs1Rs2 rd rs1 rs2) s

/-- ADDW (R134): report the mnemonic and `rd, rs1, rs2`. -/
def execAddw (rd rs1 rs2 : RegIdx) (s : State) : Res := report .ADDW (rdRs1Rs2 rd rs1 rs2) s

/-- SUBW (R135): report the mnemonic and `rd, rs1, rs2`. -/
def execSubw (rd rs1 rs2 : RegIdx) (s : State) : Res := report .SUBW (rdRs1Rs2 rd rs1 rs2) s

/-- SLLW (R136): report the mnemonic and `rd, rs1, rs2`. -/
def execSllw (rd rs1 rs2 : RegIdx) (s : State) : Res := report .SLLW (rdRs1Rs2 rd rs1 rs2) s

/-- SRLW (R137): report the mnemonic and `rd, rs1, rs2`. -/
def execSrlw (rd rs1 rs2 : RegIdx) (s : State) : Res := report .SRLW (rdRs1Rs2 rd rs1 rs2) s

/-- SRAW (R138): report the mnemonic and `rd, rs1, rs2`. -/
def execSraw (rd rs1 rs2 : RegIdx) (s : State) : Res := report .SRAW (rdRs1Rs2 rd rs1 rs2) s

end Sys2Proof.Machine
end

