-- ==== Sys2Proof/Machine/SType.lean ====
section
/-! DEFINITION. The meanings of the S-type instructions (spec 43_s_type.md): what the decoder does with each. What an
instruction would compute when executed is out of scope (R7, R8). -/

namespace Sys2Proof.Machine

/-- SB (R116): report the mnemonic and `rs1, rs2, imm`. -/
def execSb (rs1 rs2 : RegIdx) (imm : BitVec 12) (s : State) : Res := report .SB (rs1Rs2ImmS rs1 rs2 imm) s

/-- SH (R117): report the mnemonic and `rs1, rs2, imm`. -/
def execSh (rs1 rs2 : RegIdx) (imm : BitVec 12) (s : State) : Res := report .SH (rs1Rs2ImmS rs1 rs2 imm) s

/-- SW (R118): report the mnemonic and `rs1, rs2, imm`. -/
def execSw (rs1 rs2 : RegIdx) (imm : BitVec 12) (s : State) : Res := report .SW (rs1Rs2ImmS rs1 rs2 imm) s

/-- SD (R119): report the mnemonic and `rs1, rs2, imm`. -/
def execSd (rs1 rs2 : RegIdx) (imm : BitVec 12) (s : State) : Res := report .SD (rs1Rs2ImmS rs1 rs2 imm) s

end Sys2Proof.Machine
end

