-- ==== Sys2Proof/Machine/UType.lean ====
section
/-! DEFINITION. The meanings of the U-type instructions (spec 42_u_type.md): what the decoder does with each. What an
instruction would compute when executed is out of scope (R7, R8). -/

namespace Sys2Proof.Machine

/-- LUI (R112): report the mnemonic and `rd, imm`. The reported immediate is the already-shifted value. -/
def execLui (rd : RegIdx) (imm : BitVec 32) (s : State) : Res := report .LUI (rdImmU rd imm) s

/-- AUIPC (R113): report the mnemonic and `rd, imm`. No program counter is added. -/
def execAuipc (rd : RegIdx) (imm : BitVec 32) (s : State) : Res := report .AUIPC (rdImmU rd imm) s

end Sys2Proof.Machine
end

