-- ==== Sys2Proof/Machine/Mux.lean ====
section
/-! DEFINITION. The Resolver Multiplexer's result (47_resolver_mux.md): the Decode Result of a decoded
instruction, `decode` itself (R154), and the attributes of a mnemonic (R67). -/

namespace Sys2Proof

/-- The mnemonic tag of an instruction. -/
def Instr.mnemonic : Instr → Mnemonic
  | .lb _ _ _ => .LB
  | .lh _ _ _ => .LH
  | .lw _ _ _ => .LW
  | .lbu _ _ _ => .LBU
  | .lhu _ _ _ => .LHU
  | .lwu _ _ _ => .LWU
  | .ld _ _ _ => .LD
  | .fence _ _ _ _ _ => .FENCE
  | .addi _ _ _ => .ADDI
  | .slti _ _ _ => .SLTI
  | .sltiu _ _ _ => .SLTIU
  | .xori _ _ _ => .XORI
  | .ori _ _ _ => .ORI
  | .andi _ _ _ => .ANDI
  | .slli _ _ _ => .SLLI
  | .srli _ _ _ => .SRLI
  | .srai _ _ _ => .SRAI
  | .addiw _ _ _ => .ADDIW
  | .slliw _ _ _ => .SLLIW
  | .srliw _ _ _ => .SRLIW
  | .sraiw _ _ _ => .SRAIW
  | .jalr _ _ _ => .JALR
  | .ecall => .ECALL
  | .ebreak => .EBREAK
  | .lui _ _ => .LUI
  | .auipc _ _ => .AUIPC
  | .sb _ _ _ => .SB
  | .sh _ _ _ => .SH
  | .sw _ _ _ => .SW
  | .sd _ _ _ => .SD
  | .add _ _ _ => .ADD
  | .sub _ _ _ => .SUB
  | .sll _ _ _ => .SLL
  | .slt _ _ _ => .SLT
  | .sltu _ _ _ => .SLTU
  | .xor _ _ _ => .XOR
  | .srl _ _ _ => .SRL
  | .sra _ _ _ => .SRA
  | .or _ _ _ => .OR
  | .and _ _ _ => .AND
  | .addw _ _ _ => .ADDW
  | .subw _ _ _ => .SUBW
  | .sllw _ _ _ => .SLLW
  | .srlw _ _ _ => .SRLW
  | .sraw _ _ _ => .SRAW
  | .beq _ _ _ => .BEQ
  | .bne _ _ _ => .BNE
  | .blt _ _ _ => .BLT
  | .bge _ _ _ => .BGE
  | .bltu _ _ _ => .BLTU
  | .bgeu _ _ _ => .BGEU
  | .jal _ _ => .JAL

/-- The operand list of an instruction (R157). -/
def Instr.operands : Instr → List Operand
  | .lb rd rs1 imm => rdRs1ImmI rd rs1 imm
  | .lh rd rs1 imm => rdRs1ImmI rd rs1 imm
  | .lw rd rs1 imm => rdRs1ImmI rd rs1 imm
  | .lbu rd rs1 imm => rdRs1ImmI rd rs1 imm
  | .lhu rd rs1 imm => rdRs1ImmI rd rs1 imm
  | .lwu rd rs1 imm => rdRs1ImmI rd rs1 imm
  | .ld rd rs1 imm => rdRs1ImmI rd rs1 imm
  | .fence succ pred fm _ _ => succPredFm succ pred fm
  | .addi rd rs1 imm => rdRs1ImmI rd rs1 imm
  | .slti rd rs1 imm => rdRs1ImmI rd rs1 imm
  | .sltiu rd rs1 imm => rdRs1ImmI rd rs1 imm
  | .xori rd rs1 imm => rdRs1ImmI rd rs1 imm
  | .ori rd rs1 imm => rdRs1ImmI rd rs1 imm
  | .andi rd rs1 imm => rdRs1ImmI rd rs1 imm
  | .slli rd rs1 shamt => rdRs1Shamt6 rd rs1 shamt
  | .srli rd rs1 shamt => rdRs1Shamt6 rd rs1 shamt
  | .srai rd rs1 shamt => rdRs1Shamt6 rd rs1 shamt
  | .addiw rd rs1 imm => rdRs1ImmI rd rs1 imm
  | .slliw rd rs1 shamt => rdRs1Shamt5 rd rs1 shamt
  | .srliw rd rs1 shamt => rdRs1Shamt5 rd rs1 shamt
  | .sraiw rd rs1 shamt => rdRs1Shamt5 rd rs1 shamt
  | .jalr rd rs1 imm => rdRs1ImmI rd rs1 imm
  | .ecall => noOperands
  | .ebreak => noOperands
  | .lui rd imm => rdImmU rd imm
  | .auipc rd imm => rdImmU rd imm
  | .sb rs1 rs2 imm => rs1Rs2ImmS rs1 rs2 imm
  | .sh rs1 rs2 imm => rs1Rs2ImmS rs1 rs2 imm
  | .sw rs1 rs2 imm => rs1Rs2ImmS rs1 rs2 imm
  | .sd rs1 rs2 imm => rs1Rs2ImmS rs1 rs2 imm
  | .add rd rs1 rs2 => rdRs1Rs2 rd rs1 rs2
  | .sub rd rs1 rs2 => rdRs1Rs2 rd rs1 rs2
  | .sll rd rs1 rs2 => rdRs1Rs2 rd rs1 rs2
  | .slt rd rs1 rs2 => rdRs1Rs2 rd rs1 rs2
  | .sltu rd rs1 rs2 => rdRs1Rs2 rd rs1 rs2
  | .xor rd rs1 rs2 => rdRs1Rs2 rd rs1 rs2
  | .srl rd rs1 rs2 => rdRs1Rs2 rd rs1 rs2
  | .sra rd rs1 rs2 => rdRs1Rs2 rd rs1 rs2
  | .or rd rs1 rs2 => rdRs1Rs2 rd rs1 rs2
  | .and rd rs1 rs2 => rdRs1Rs2 rd rs1 rs2
  | .addw rd rs1 rs2 => rdRs1Rs2 rd rs1 rs2
  | .subw rd rs1 rs2 => rdRs1Rs2 rd rs1 rs2
  | .sllw rd rs1 rs2 => rdRs1Rs2 rd rs1 rs2
  | .srlw rd rs1 rs2 => rdRs1Rs2 rd rs1 rs2
  | .sraw rd rs1 rs2 => rdRs1Rs2 rd rs1 rs2
  | .beq rs1 rs2 imm => rs1Rs2ImmB rs1 rs2 imm
  | .bne rs1 rs2 imm => rs1Rs2ImmB rs1 rs2 imm
  | .blt rs1 rs2 imm => rs1Rs2ImmB rs1 rs2 imm
  | .bge rs1 rs2 imm => rs1Rs2ImmB rs1 rs2 imm
  | .bltu rs1 rs2 imm => rs1Rs2ImmB rs1 rs2 imm
  | .bgeu rs1 rs2 imm => rs1Rs2ImmB rs1 rs2 imm
  | .jal rd imm => rdImmJ rd imm

/-- The Decode Result of a decoded instruction, complete or absent (R158). -/
def Instr.result (i : Instr) : DecodeResult := .decoded i.mnemonic i.operands

/-- The result of a resolver's candidate: no instruction is Undefined, which carries nothing (R155, R163). -/
def candidateResult : Option Instr → DecodeResult
  | some i => i.result
  | none => .undefined

/-- `decode(w)`, the function the whole spec defines (R14, R154): total on all 2^32 words (R159). -/
def decode (w : Word) : DecodeResult := candidateResult (decodeWord w)

/-- The opcode group of a mnemonic (R67). -/
def Mnemonic.group : Mnemonic → Group
  | .LB | .LH | .LW | .LBU | .LHU | .LWU | .LD => .load
  | .FENCE => .fence
  | .ADDI | .SLTI | .SLTIU | .XORI | .ORI | .ANDI | .SLLI | .SRLI | .SRAI => .opImm
  | .ADDIW | .SLLIW | .SRLIW | .SRAIW => .opImm32
  | .JALR => .jalr
  | .ECALL | .EBREAK => .system
  | .LUI => .lui
  | .AUIPC => .auipc
  | .SB | .SH | .SW | .SD => .store
  | .ADD | .SUB | .SLL | .SLT | .SLTU | .XOR | .SRL | .SRA | .OR | .AND => .op
  | .ADDW | .SUBW | .SLLW | .SRLW | .SRAW => .op32
  | .BEQ | .BNE | .BLT | .BGE | .BLTU | .BGEU => .branch
  | .JAL => .jal

/-- The format of a mnemonic (R67). -/
def Mnemonic.format (m : Mnemonic) : Format := m.group.format

end Sys2Proof
end

