-- ==== Sys2Proof/Machine/Evaluate.lean ====
section
/-! DEFINITION. One evaluation of the block on the word at `instr_i` (R21, R36, R153). -/

namespace Sys2Proof.Machine

/-- The outputs become `decode(instr_i)`: the decoded instruction's meaning reports it, and a word with no
meaning is reported Undefined, "a normal, reportable decode outcome" (R83, R165). -/
def evaluate (s : State) : Res :=
  match decodeWord s.instrI with
  | some i => exec i s
  | none => reportUndefined s

/-- One decode of the caller's stream: with a word to present, the caller presents it, the block evaluates,
and the caller takes the result (R176); with none, the input is held and the outputs follow it
(R36, R178). Log entry 3. After an Undefined result the caller presents its next word like after any other: whether it
does is left to the caller (R176, U5), and that this one always goes on is the model's choice (log entry 11,
DESIGN CHOICE). -/
def decodeNext (s : State) : Res :=
  match s.stream with
  | [] => evaluate s
  | _ :: _ => collectNext (evaluate s.present)

end Sys2Proof.Machine
end

