-- ==== Sys2Proof/Machine/Step.lean ====
section
/-! DEFINITION. The step: one decode of the caller's stream. -/

namespace Sys2Proof.Machine

/-- One step of the model: one word decoded (R17 "evaluated once per word"; log entry 3). -/
def step (s : State) : Host.Outcome State Fault Refusal := decodeNext s

/-- `s` with the word of an opcode-table row as the next one the caller presents (log entry 7). -/
def State.withFetchWord (s : State) (nbits w : Nat) : State := s.withNextWord (tableWord nbits w)

end Sys2Proof.Machine
end

