-- ==== Sys2Proof/Machine/Flags.lean ====
section
/-! DEFINITION. The one-bit outputs. The decoder has no flags or condition codes and no instruction sets one
(R24: "The only 1-bit outcome is whether the result is Undefined"); what it has of one bit is
`undefined_o` and the five presence outputs of the port list (R33, R35). -/

namespace Sys2Proof

/-- The operand names of a result, in order: those of its mnemonic (R157); Undefined has none. -/
def DecodeResult.names : DecodeResult → List OperandName
  | .decoded m _ => m.form.names
  | .undefined => []

/-- `undefined_o`: 1 when `decode(w) = Undefined` (R33). -/
def DecodeResult.isUndefined : DecodeResult → Bool
  | .decoded _ _ => false
  | .undefined => true

/-- `has_rd_o`: the operand list contains `rd` (R33). -/
def DecodeResult.hasRd (r : DecodeResult) : Bool := r.names.contains .rd
/-- `has_rs1_o` (R33). -/
def DecodeResult.hasRs1 (r : DecodeResult) : Bool := r.names.contains .rs1
/-- `has_rs2_o` (R33). -/
def DecodeResult.hasRs2 (r : DecodeResult) : Bool := r.names.contains .rs2
/-- `has_imm_o`: "the operand list contains one immediate named imm or shamt" (R33). -/
def DecodeResult.hasImm (r : DecodeResult) : Bool := r.names.contains .imm || r.names.contains .shamt
/-- `has_fence_o`: "the operand list is FENCE's succ, pred, fm" (R33). -/
def DecodeResult.hasFence (r : DecodeResult) : Bool :=
  r.names.contains .succ && r.names.contains .pred && r.names.contains .fm

end Sys2Proof
end

