-- ==== Sys2Proof/Machine/Ports.lean ====
section
/-! DEFINITION. The output ports as a function of the Decode Result (R33, R34, R35; the spec's decisions D1,
D2, D3, D14). The ports are not stored: `State.ports` computes them from `State.result`. -/

namespace Sys2Proof

/-- Format codes: R 1, I 2, S 3, B 4, U 5, J 6; 0 is none (R34). -/
def Format.code : Format → BitVec 3
  | .R => 1#3
  | .I => 2#3
  | .S => 3#3
  | .B => 4#3
  | .U => 5#3
  | .J => 6#3

/-- Mnemonic codes 1 to 52; 0 is none (R34). -/
def Mnemonic.code : Mnemonic → BitVec 6
  | .LB => 1#6
  | .LH => 2#6
  | .LW => 3#6
  | .LBU => 4#6
  | .LHU => 5#6
  | .LWU => 6#6
  | .LD => 7#6
  | .FENCE => 8#6
  | .ADDI => 9#6
  | .SLTI => 10#6
  | .SLTIU => 11#6
  | .XORI => 12#6
  | .ORI => 13#6
  | .ANDI => 14#6
  | .SLLI => 15#6
  | .SRLI => 16#6
  | .SRAI => 17#6
  | .ADDIW => 18#6
  | .SLLIW => 19#6
  | .SRLIW => 20#6
  | .SRAIW => 21#6
  | .JALR => 22#6
  | .ECALL => 23#6
  | .EBREAK => 24#6
  | .LUI => 25#6
  | .AUIPC => 26#6
  | .SB => 27#6
  | .SH => 28#6
  | .SW => 29#6
  | .SD => 30#6
  | .ADD => 31#6
  | .SUB => 32#6
  | .SLL => 33#6
  | .SLT => 34#6
  | .SLTU => 35#6
  | .XOR => 36#6
  | .SRL => 37#6
  | .SRA => 38#6
  | .OR => 39#6
  | .AND => 40#6
  | .ADDW => 41#6
  | .SUBW => 42#6
  | .SLLW => 43#6
  | .SRLW => 44#6
  | .SRAW => 45#6
  | .BEQ => 46#6
  | .BNE => 47#6
  | .BLT => 48#6
  | .BGE => 49#6
  | .BLTU => 50#6
  | .BGEU => 51#6
  | .JAL => 52#6

/-- The output port bundle (R33). -/
structure Ports where
  undefinedO : Bool
  formatO : BitVec 3
  mnemonicO : BitVec 6
  hasRd : Bool
  hasRs1 : Bool
  hasRs2 : Bool
  hasImm : Bool
  hasFence : Bool
  rdO : BitVec 5
  rs1O : BitVec 5
  rs2O : BitVec 5
  immO : BitVec 64
  succO : BitVec 4
  predO : BitVec 4
  fmO : BitVec 4
deriving DecidableEq, Repr

/-- The first operand that stands under the name `n`. -/
def lookupOperand (n : OperandName) : List OperandName → List Operand → Option Operand
  | m :: ms, o :: os => if m = n then some o else lookupOperand n ms os
  | _, _ => none

/-- The operand of a result under a name. -/
def DecodeResult.operand (r : DecodeResult) (n : OperandName) : Option Operand :=
  match r with
  | .decoded m ops => lookupOperand n m.form.names ops
  | .undefined => none

/-- "the index of the operand of that name, or 0" (R35). -/
def regPort : Option Operand → BitVec 5
  | some (.reg i) => i
  | _ => 0#5

/-- The value of an immediate operand on a port of width `k`, two's complement, or 0 (R33, R35). -/
def immPort (k : Nat) : Option Operand → BitVec k
  | some (.imm v) => BitVec.ofInt k v
  | _ => BitVec.ofInt k 0

/-- The format code of a result; 0 when Undefined (R33). -/
def DecodeResult.formatCode : DecodeResult → BitVec 3
  | .decoded m _ => m.format.code
  | .undefined => 0#3

/-- The mnemonic code of a result; 0 when Undefined (R33). -/
def DecodeResult.mnemonicCode : DecodeResult → BitVec 6
  | .decoded m _ => m.code
  | .undefined => 0#6

/-- "The ports are a function of the abstract result" (R35): under `undefined_o = 1` every other output is
0, since Undefined has no operand and no mnemonic. -/
def portsOf (r : DecodeResult) : Ports where
  undefinedO := r.isUndefined
  formatO := r.formatCode
  mnemonicO := r.mnemonicCode
  hasRd := r.hasRd
  hasRs1 := r.hasRs1
  hasRs2 := r.hasRs2
  hasImm := r.hasImm
  hasFence := r.hasFence
  rdO := regPort (r.operand .rd)
  rs1O := regPort (r.operand .rs1)
  rs2O := regPort (r.operand .rs2)
  immO := immPort 64 ((r.operand .imm).or (r.operand .shamt))
  succO := immPort 4 (r.operand .succ)
  predO := immPort 4 (r.operand .pred)
  fmO := immPort 4 (r.operand .fm)

/-- The output ports of a state. -/
def Machine.State.ports (s : Machine.State) : Ports := portsOf s.result

end Sys2Proof
end

