-- ==== Sys2Proof/Machine/Table.lean ====
section
/-! DEFINITION. The decoder as a search of the 52 match/mask rows of spec/opcode_table.json (R68, R69, R70,
R154): a second transcription of the spec, independent of the staged pipeline of Sys2Proof/Decode.lean. -/

namespace Sys2Proof

/-- One row: a word is the instruction when `w & mask = match` (R68). -/
structure Row where
  mnemonic : Mnemonic
  key : Word
  mask : Word
deriving DecidableEq, Repr

/-- The word satisfies the row. -/
def Row.hits (r : Row) (w : Word) : Bool := w &&& r.mask == r.key

/-- The 24 rows of format I. -/
def rowsI : List Row :=
  [⟨.LB, 0x00000003#32, 0x0000707f#32⟩,
    ⟨.LH, 0x00001003#32, 0x0000707f#32⟩,
    ⟨.LW, 0x00002003#32, 0x0000707f#32⟩,
    ⟨.LBU, 0x00004003#32, 0x0000707f#32⟩,
    ⟨.LHU, 0x00005003#32, 0x0000707f#32⟩,
    ⟨.LWU, 0x00006003#32, 0x0000707f#32⟩,
    ⟨.LD, 0x00003003#32, 0x0000707f#32⟩,
    ⟨.FENCE, 0x0000000f#32, 0x0000707f#32⟩] ++
  [⟨.ADDI, 0x00000013#32, 0x0000707f#32⟩,
    ⟨.SLTI, 0x00002013#32, 0x0000707f#32⟩,
    ⟨.SLTIU, 0x00003013#32, 0x0000707f#32⟩,
    ⟨.XORI, 0x00004013#32, 0x0000707f#32⟩,
    ⟨.ORI, 0x00006013#32, 0x0000707f#32⟩,
    ⟨.ANDI, 0x00007013#32, 0x0000707f#32⟩,
    ⟨.SLLI, 0x00001013#32, 0xfc00707f#32⟩,
    ⟨.SRLI, 0x00005013#32, 0xfc00707f#32⟩] ++
  [⟨.SRAI, 0x40005013#32, 0xfc00707f#32⟩,
    ⟨.ADDIW, 0x0000001b#32, 0x0000707f#32⟩,
    ⟨.SLLIW, 0x0000101b#32, 0xfe00707f#32⟩,
    ⟨.SRLIW, 0x0000501b#32, 0xfe00707f#32⟩,
    ⟨.SRAIW, 0x4000501b#32, 0xfe00707f#32⟩,
    ⟨.JALR, 0x00000067#32, 0x0000707f#32⟩,
    ⟨.ECALL, 0x00000073#32, 0xffffffff#32⟩,
    ⟨.EBREAK, 0x00100073#32, 0xffffffff#32⟩]

/-- The 2 rows of format U. -/
def rowsU : List Row :=
  [⟨.LUI, 0x00000037#32, 0x0000007f#32⟩,
    ⟨.AUIPC, 0x00000017#32, 0x0000007f#32⟩]

/-- The 4 rows of format S. -/
def rowsS : List Row :=
  [⟨.SB, 0x00000023#32, 0x0000707f#32⟩,
    ⟨.SH, 0x00001023#32, 0x0000707f#32⟩,
    ⟨.SW, 0x00002023#32, 0x0000707f#32⟩,
    ⟨.SD, 0x00003023#32, 0x0000707f#32⟩]

/-- The 15 rows of format R. -/
def rowsR : List Row :=
  [⟨.ADD, 0x00000033#32, 0xfe00707f#32⟩,
    ⟨.SUB, 0x40000033#32, 0xfe00707f#32⟩,
    ⟨.SLL, 0x00001033#32, 0xfe00707f#32⟩,
    ⟨.SLT, 0x00002033#32, 0xfe00707f#32⟩,
    ⟨.SLTU, 0x00003033#32, 0xfe00707f#32⟩,
    ⟨.XOR, 0x00004033#32, 0xfe00707f#32⟩,
    ⟨.SRL, 0x00005033#32, 0xfe00707f#32⟩,
    ⟨.SRA, 0x40005033#32, 0xfe00707f#32⟩] ++
  [⟨.OR, 0x00006033#32, 0xfe00707f#32⟩,
    ⟨.AND, 0x00007033#32, 0xfe00707f#32⟩,
    ⟨.ADDW, 0x0000003b#32, 0xfe00707f#32⟩,
    ⟨.SUBW, 0x4000003b#32, 0xfe00707f#32⟩,
    ⟨.SLLW, 0x0000103b#32, 0xfe00707f#32⟩,
    ⟨.SRLW, 0x0000503b#32, 0xfe00707f#32⟩,
    ⟨.SRAW, 0x4000503b#32, 0xfe00707f#32⟩]

/-- The 6 rows of format B. -/
def rowsB : List Row :=
  [⟨.BEQ, 0x00000063#32, 0x0000707f#32⟩,
    ⟨.BNE, 0x00001063#32, 0x0000707f#32⟩,
    ⟨.BLT, 0x00004063#32, 0x0000707f#32⟩,
    ⟨.BGE, 0x00005063#32, 0x0000707f#32⟩,
    ⟨.BLTU, 0x00006063#32, 0x0000707f#32⟩,
    ⟨.BGEU, 0x00007063#32, 0x0000707f#32⟩]

/-- The 1 row of format J. -/
def rowsJ : List Row :=
  [⟨.JAL, 0x0000006f#32, 0x0000007f#32⟩]

/-- The 52 rows, in the order of the port codes (R34, R67). -/
def opcodeTable : List Row := rowsI ++ rowsU ++ rowsS ++ rowsR ++ rowsB ++ rowsJ

/-- "decode(w) is the unique row of opcode_table.json with w & mask = match, with the operands that row's rule
gives, or Undefined when no row matches" (R154). -/
def tableDecode (w : Word) : DecodeResult :=
  match opcodeTable.find? (fun r => r.hits w) with
  | some r => .decoded r.mnemonic (r.mnemonic.form.ofWord w)
  | none => .undefined

/-- The row of a mnemonic, if the table has one. -/
def rowOf (m : Mnemonic) : Option Row := opcodeTable.find? (fun r => r.mnemonic == m)

/-- The illegal space, condition by condition (R71; one disjunct per numbered item). -/
def illegalSpace (w : Word) : Bool :=
  let op := opcode w
  let f3 := funct3 w
  let f7 := funct7 w
  let t6 := w.extractLsb 31 26
  -- 1. the opcode is none of the 13
  (!(op == 0b0000011#7 || op == 0b0001111#7 || op == 0b0010011#7 || op == 0b0010111#7 || op == 0b0011011#7
      || op == 0b0100011#7 || op == 0b0110011#7 || op == 0b0110111#7 || op == 0b0111011#7 || op == 0b1100011#7
      || op == 0b1100111#7 || op == 0b1101111#7 || op == 0b1110011#7))
  -- 2. LOAD
  || (op == 0b0000011#7 && f3 == 0b111#3)
  -- 3. FENCE
  || (op == 0b0001111#7 && !(f3 == 0b000#3))
  -- 4. OP-IMM
  || (op == 0b0010011#7 && f3 == 0b001#3 && !(t6 == 0b000000#6))
  || (op == 0b0010011#7 && f3 == 0b101#3 && !(t6 == 0b000000#6 || t6 == 0b010000#6))
  -- 5. OP-IMM-32
  || (op == 0b0011011#7 && (f3 == 0b010#3 || f3 == 0b011#3 || f3 == 0b100#3 || f3 == 0b110#3 || f3 == 0b111#3))
  || (op == 0b0011011#7 && f3 == 0b001#3 && !(f7 == 0b0000000#7))
  || (op == 0b0011011#7 && f3 == 0b101#3 && !(f7 == 0b0000000#7 || f7 == 0b0100000#7))
  -- 6. JALR
  || (op == 0b1100111#7 && !(f3 == 0b000#3))
  -- 7. SYSTEM
  || (op == 0b1110011#7 && !(f3 == 0b000#3 && rdField w == 0#5 && rs1Field w == 0#5
      && (imm12Field w == 0#12 || imm12Field w == 1#12)))
  -- 8. STORE
  || (op == 0b0100011#7 && (f3 == 0b100#3 || f3 == 0b101#3 || f3 == 0b110#3 || f3 == 0b111#3))
  -- 9. OP
  || (op == 0b0110011#7 && !(f7 == 0b0000000#7 || f7 == 0b0100000#7))
  || (op == 0b0110011#7 && f7 == 0b0100000#7 && !(f3 == 0b000#3 || f3 == 0b101#3))
  -- 10. OP-32
  || (op == 0b0111011#7 && (f3 == 0b010#3 || f3 == 0b011#3 || f3 == 0b100#3 || f3 == 0b110#3 || f3 == 0b111#3))
  || (op == 0b0111011#7 && !(f7 == 0b0000000#7 || f7 == 0b0100000#7))
  || (op == 0b0111011#7 && f7 == 0b0100000#7 && f3 == 0b001#3)
  -- 11. BRANCH
  || (op == 0b1100011#7 && (f3 == 0b010#3 || f3 == 0b011#3))

end Sys2Proof
end

