-- ==== Sys2Proof/Safety.lean ====
section
/-! DEFINITION. What a safe state and a safe run are, in the terms the claims use. -/

namespace Sys2Proof

/-- The operand list has the length, the kinds and the ranges its shape gives: the lists of R157, the
immediates in the ranges of R65, B and J offsets even (R40), U immediates multiples of 4096 (R63). -/
def OperandForm.fits : OperandForm → List Operand → Bool
  | .rdRs1ImmI, [.reg _, .reg _, .imm v] => decide (-2048 ≤ v ∧ v ≤ 2047)
  | .rdRs1Shamt6, [.reg _, .reg _, .imm v] => decide (0 ≤ v ∧ v ≤ 63)
  | .rdRs1Shamt5, [.reg _, .reg _, .imm v] => decide (0 ≤ v ∧ v ≤ 31)
  | .succPredFm, [.imm a, .imm b, .imm c] =>
    decide (0 ≤ a ∧ a ≤ 15 ∧ 0 ≤ b ∧ b ≤ 15 ∧ 0 ≤ c ∧ c ≤ 15)
  | .none, [] => true
  | .rdImmU, [.reg _, .imm v] => decide (-2147483648 ≤ v ∧ v ≤ 2147479552 ∧ v % 4096 = 0)
  | .rs1Rs2ImmS, [.reg _, .reg _, .imm v] => decide (-2048 ≤ v ∧ v ≤ 2047)
  | .rdRs1Rs2, [.reg _, .reg _, .reg _] => true
  | .rs1Rs2ImmB, [.reg _, .reg _, .imm v] => decide (-4096 ≤ v ∧ v ≤ 4094 ∧ v % 2 = 0)
  | .rdImmJ, [.reg _, .imm v] => decide (-1048576 ≤ v ∧ v ≤ 1048574 ∧ v % 2 = 0)
  | _, _ => false

/-- "A result is either Undefined, carrying no field at all, or Decoded with the mnemonic and the complete
operand list" (R158). -/
def DecodeResult.complete : DecodeResult → Bool
  | .decoded m ops => m.form.fits ops
  | .undefined => true

namespace Machine

/-- The outputs are `decode(instr_i)` (R36, R174, R178). -/
abbrev State.Settled (s : State) : Prop := s.result = decode s.instrI

/-- Every result the caller took is complete: "never partial output" (R30, R158). -/
abbrev State.AllComplete (s : State) : Prop := ∀ r ∈ s.delivered, r.complete = true

/-- A safe state. -/
abbrev State.Inv (s : State) : Prop := s.Settled ∧ s.AllComplete

/-- A run of `k` steps is safe: it ends in a next state (never a fault, never a refusal; R165), and that
state is a safe one. -/
def SafeRun (k : Nat) (s : State) : Prop := ∃ t, Host.Core.run core k s = .next t ∧ t.Inv

end Machine

end Sys2Proof
end

