-- ==== Sys2Proof/Certificates/Slice0/Obligations.lean ====
section
/-! DEFINITION. The statements for the provers.  What each one rests on is said in its docstring and in
OBLIGATIONS.json; D<n> is a decision of spec/92_eei_decisions.md, the spec's own choice and no statement of
its source; a log entry is notes/assumptions/<n>.md. -/

open Sys2Proof Sys2Proof.Machine

/-! ## What an instruction does: its mnemonic and operands on the outputs, and nothing else

The outputs and the caller's lists as fields of State are the model's choice (log entry 1). -/

/-- The loads, ADDI to ANDI, ADDIW and JALR answer a next state in every state: the outputs carry the mnemonic
and `rd, rs1, imm` with `imm` the signed value of the 12 bits, and the input, the stream and what was
delivered stay as they were. Operand order: D11 for loads and JALR; the outputs in State: log entry 1. -/
def Obligations.RdRs1ImmInstructionsReport : Prop :=
  ∀ (rd rs1 : RegIdx) (imm : BitVec 12) (s : State),
    exec (.lb rd rs1 imm) s = .next { s with result := .decoded .LB [.reg rd, .reg rs1, .imm imm.toInt] } ∧
    exec (.lh rd rs1 imm) s = .next { s with result := .decoded .LH [.reg rd, .reg rs1, .imm imm.toInt] } ∧
    exec (.lw rd rs1 imm) s = .next { s with result := .decoded .LW [.reg rd, .reg rs1, .imm imm.toInt] } ∧
    exec (.lbu rd rs1 imm) s = .next { s with result := .decoded .LBU [.reg rd, .reg rs1, .imm imm.toInt] } ∧
    exec (.lhu rd rs1 imm) s = .next { s with result := .decoded .LHU [.reg rd, .reg rs1, .imm imm.toInt] } ∧
    exec (.lwu rd rs1 imm) s = .next { s with result := .decoded .LWU [.reg rd, .reg rs1, .imm imm.toInt] } ∧
    exec (.ld rd rs1 imm) s = .next { s with result := .decoded .LD [.reg rd, .reg rs1, .imm imm.toInt] } ∧
    exec (.addi rd rs1 imm) s = .next { s with result := .decoded .ADDI [.reg rd, .reg rs1, .imm imm.toInt] } ∧
    exec (.slti rd rs1 imm) s = .next { s with result := .decoded .SLTI [.reg rd, .reg rs1, .imm imm.toInt] } ∧
    exec (.sltiu rd rs1 imm) s = .next { s with result := .decoded .SLTIU [.reg rd, .reg rs1, .imm imm.toInt] } ∧
    exec (.xori rd rs1 imm) s = .next { s with result := .decoded .XORI [.reg rd, .reg rs1, .imm imm.toInt] } ∧
    exec (.ori rd rs1 imm) s = .next { s with result := .decoded .ORI [.reg rd, .reg rs1, .imm imm.toInt] } ∧
    exec (.andi rd rs1 imm) s = .next { s with result := .decoded .ANDI [.reg rd, .reg rs1, .imm imm.toInt] } ∧
    exec (.addiw rd rs1 imm) s = .next { s with result := .decoded .ADDIW [.reg rd, .reg rs1, .imm imm.toInt] } ∧
    exec (.jalr rd rs1 imm) s = .next { s with result := .decoded .JALR [.reg rd, .reg rs1, .imm imm.toInt] }

/-- The six shift immediates answer a next state in every state and report `rd, rs1, shamt`, the amount unsigned
(D11, D12), and change nothing else. -/
def Obligations.ShiftImmediatesReport : Prop :=
  ∀ (rd rs1 : RegIdx) (sh6 : BitVec 6) (sh5 : BitVec 5) (s : State),
    exec (.slli rd rs1 sh6) s = .next { s with result := .decoded .SLLI [.reg rd, .reg rs1, .imm (Int.ofNat sh6.toNat)] } ∧
    exec (.srli rd rs1 sh6) s = .next { s with result := .decoded .SRLI [.reg rd, .reg rs1, .imm (Int.ofNat sh6.toNat)] } ∧
    exec (.srai rd rs1 sh6) s = .next { s with result := .decoded .SRAI [.reg rd, .reg rs1, .imm (Int.ofNat sh6.toNat)] } ∧
    exec (.slliw rd rs1 sh5) s = .next { s with result := .decoded .SLLIW [.reg rd, .reg rs1, .imm (Int.ofNat sh5.toNat)] } ∧
    exec (.srliw rd rs1 sh5) s = .next { s with result := .decoded .SRLIW [.reg rd, .reg rs1, .imm (Int.ofNat sh5.toNat)] } ∧
    exec (.sraiw rd rs1 sh5) s = .next { s with result := .decoded .SRAIW [.reg rd, .reg rs1, .imm (Int.ofNat sh5.toNat)] }

/-- FENCE answers a next state in every state and reports `succ, pred, fm`, whatever its ignored `rd` and `rs1`
fields hold (D13, log entry 6), and changes nothing else. -/
def Obligations.FenceReports : Prop :=
  ∀ (succ pred fm : BitVec 4) (rs1 rd : RegIdx) (s : State),
    exec (.fence succ pred fm rs1 rd) s = .next { s with result := .decoded .FENCE [.imm (Int.ofNat succ.toNat), .imm (Int.ofNat pred.toNat), .imm (Int.ofNat fm.toNat)] }

/-- ECALL and EBREAK answer a next state in every state, report the bare mnemonic, and do "nothing else" (R166):
no trap is taken. -/
def Obligations.EcallAndEbreakReport : Prop :=
  ∀ (s : State),
    exec (.ecall) s = .next { s with result := .decoded .ECALL [] } ∧
    exec (.ebreak) s = .next { s with result := .decoded .EBREAK [] }

/-- LUI and AUIPC answer a next state in every state and report `rd, imm`, the already shifted signed value
(D10, D11), and change nothing else. -/
def Obligations.LuiAndAuipcReport : Prop :=
  ∀ (rd : RegIdx) (imm : BitVec 32) (s : State),
    exec (.lui rd imm) s = .next { s with result := .decoded .LUI [.reg rd, .imm imm.toInt] } ∧
    exec (.auipc rd imm) s = .next { s with result := .decoded .AUIPC [.reg rd, .imm imm.toInt] }

/-- The four stores answer a next state in every state and report `rs1, rs2, imm` (D11), and change nothing
else: there is no memory to store to (R27, R41). -/
def Obligations.StoresReport : Prop :=
  ∀ (rs1 rs2 : RegIdx) (imm : BitVec 12) (s : State),
    exec (.sb rs1 rs2 imm) s = .next { s with result := .decoded .SB [.reg rs1, .reg rs2, .imm imm.toInt] } ∧
    exec (.sh rs1 rs2 imm) s = .next { s with result := .decoded .SH [.reg rs1, .reg rs2, .imm imm.toInt] } ∧
    exec (.sw rs1 rs2 imm) s = .next { s with result := .decoded .SW [.reg rs1, .reg rs2, .imm imm.toInt] } ∧
    exec (.sd rs1 rs2 imm) s = .next { s with result := .decoded .SD [.reg rs1, .reg rs2, .imm imm.toInt] }

/-- The 15 R-type instructions answer a next state in every state and report `rd, rs1, rs2`, and change nothing
else: no register is read or written (R22). -/
def Obligations.RegisterInstructionsReport : Prop :=
  ∀ (rd rs1 rs2 : RegIdx) (s : State),
    exec (.add rd rs1 rs2) s = .next { s with result := .decoded .ADD [.reg rd, .reg rs1, .reg rs2] } ∧
    exec (.sub rd rs1 rs2) s = .next { s with result := .decoded .SUB [.reg rd, .reg rs1, .reg rs2] } ∧
    exec (.sll rd rs1 rs2) s = .next { s with result := .decoded .SLL [.reg rd, .reg rs1, .reg rs2] } ∧
    exec (.slt rd rs1 rs2) s = .next { s with result := .decoded .SLT [.reg rd, .reg rs1, .reg rs2] } ∧
    exec (.sltu rd rs1 rs2) s = .next { s with result := .decoded .SLTU [.reg rd, .reg rs1, .reg rs2] } ∧
    exec (.xor rd rs1 rs2) s = .next { s with result := .decoded .XOR [.reg rd, .reg rs1, .reg rs2] } ∧
    exec (.srl rd rs1 rs2) s = .next { s with result := .decoded .SRL [.reg rd, .reg rs1, .reg rs2] } ∧
    exec (.sra rd rs1 rs2) s = .next { s with result := .decoded .SRA [.reg rd, .reg rs1, .reg rs2] } ∧
    exec (.or rd rs1 rs2) s = .next { s with result := .decoded .OR [.reg rd, .reg rs1, .reg rs2] } ∧
    exec (.and rd rs1 rs2) s = .next { s with result := .decoded .AND [.reg rd, .reg rs1, .reg rs2] } ∧
    exec (.addw rd rs1 rs2) s = .next { s with result := .decoded .ADDW [.reg rd, .reg rs1, .reg rs2] } ∧
    exec (.subw rd rs1 rs2) s = .next { s with result := .decoded .SUBW [.reg rd, .reg rs1, .reg rs2] } ∧
    exec (.sllw rd rs1 rs2) s = .next { s with result := .decoded .SLLW [.reg rd, .reg rs1, .reg rs2] } ∧
    exec (.srlw rd rs1 rs2) s = .next { s with result := .decoded .SRLW [.reg rd, .reg rs1, .reg rs2] } ∧
    exec (.sraw rd rs1 rs2) s = .next { s with result := .decoded .SRAW [.reg rd, .reg rs1, .reg rs2] }

/-- All six branches answer a next state in every state and report `rs1, rs2, imm`, the offset included (R141,
C7; order D11), and change nothing else: no target is formed (R142). -/
def Obligations.BranchesReport : Prop :=
  ∀ (rs1 rs2 : RegIdx) (imm : BitVec 13) (s : State),
    exec (.beq rs1 rs2 imm) s = .next { s with result := .decoded .BEQ [.reg rs1, .reg rs2, .imm imm.toInt] } ∧
    exec (.bne rs1 rs2 imm) s = .next { s with result := .decoded .BNE [.reg rs1, .reg rs2, .imm imm.toInt] } ∧
    exec (.blt rs1 rs2 imm) s = .next { s with result := .decoded .BLT [.reg rs1, .reg rs2, .imm imm.toInt] } ∧
    exec (.bge rs1 rs2 imm) s = .next { s with result := .decoded .BGE [.reg rs1, .reg rs2, .imm imm.toInt] } ∧
    exec (.bltu rs1 rs2 imm) s = .next { s with result := .decoded .BLTU [.reg rs1, .reg rs2, .imm imm.toInt] } ∧
    exec (.bgeu rs1 rs2 imm) s = .next { s with result := .decoded .BGEU [.reg rs1, .reg rs2, .imm imm.toInt] }

/-- JAL answers a next state in every state and reports `rd, imm`, the offset and not a target (order D11), and
changes nothing else. -/
def Obligations.JalReports : Prop :=
  ∀ (rd : RegIdx) (imm : BitVec 21) (s : State),
    exec (.jal rd imm) s = .next { s with result := .decoded .JAL [.reg rd, .imm imm.toInt] }

/-- Whatever an instruction does, it changes only the Decode Result, and that is the instruction's own complete
result: the input port, the caller's stream and what was delivered stay (R21, R41, R166). -/
def Obligations.InstructionsChangeOnlyTheResult : Prop :=
  ∀ (i : Instr) (s t : State), exec i s = .next t →
    t.instrI = s.instrI ∧ t.stream = s.stream ∧ t.delivered = s.delivered ∧
      t.result = .decoded i.mnemonic i.operands

/-! ## From the word: the Decode clause of every instruction's rule -/

/-- Words with the LOAD keys (R85 to R91; opcode value D4, operand order D11). -/
def Obligations.LoadWordsDecode : Prop :=
  ∀ w : Word,
    (w &&& 0x0000707f#32 = 0x00000003#32 →
      decode w = .decoded .LB
        [.reg (w.extractLsb 11 7), .reg (w.extractLsb 19 15), .imm (w.extractLsb 31 20).toInt]) ∧
    (w &&& 0x0000707f#32 = 0x00001003#32 →
      decode w = .decoded .LH
        [.reg (w.extractLsb 11 7), .reg (w.extractLsb 19 15), .imm (w.extractLsb 31 20).toInt]) ∧
    (w &&& 0x0000707f#32 = 0x00002003#32 →
      decode w = .decoded .LW
        [.reg (w.extractLsb 11 7), .reg (w.extractLsb 19 15), .imm (w.extractLsb 31 20).toInt]) ∧
    (w &&& 0x0000707f#32 = 0x00004003#32 →
      decode w = .decoded .LBU
        [.reg (w.extractLsb 11 7), .reg (w.extractLsb 19 15), .imm (w.extractLsb 31 20).toInt]) ∧
    (w &&& 0x0000707f#32 = 0x00005003#32 →
      decode w = .decoded .LHU
        [.reg (w.extractLsb 11 7), .reg (w.extractLsb 19 15), .imm (w.extractLsb 31 20).toInt]) ∧
    (w &&& 0x0000707f#32 = 0x00006003#32 →
      decode w = .decoded .LWU
        [.reg (w.extractLsb 11 7), .reg (w.extractLsb 19 15), .imm (w.extractLsb 31 20).toInt]) ∧
    (w &&& 0x0000707f#32 = 0x00003003#32 →
      decode w = .decoded .LD
        [.reg (w.extractLsb 11 7), .reg (w.extractLsb 19 15), .imm (w.extractLsb 31 20).toInt])

/-- Words with the FENCE key (R92; opcode value D4, sub-field positions D8, operand list D13). -/
def Obligations.FenceWordsDecode : Prop :=
  ∀ w : Word,
    (w &&& 0x0000707f#32 = 0x0000000f#32 →
      decode w = .decoded .FENCE
        [.imm (Int.ofNat (w.extractLsb 23 20).toNat), .imm (Int.ofNat (w.extractLsb 27 24).toNat), .imm (Int.ofNat (w.extractLsb 31 28).toNat)])

/-- Words with the keys of the immediate-ALU instructions that are no shifts (R93 to R98; funct3 values D6). -/
def Obligations.ImmediateAluWordsDecode : Prop :=
  ∀ w : Word,
    (w &&& 0x0000707f#32 = 0x00000013#32 →
      decode w = .decoded .ADDI
        [.reg (w.extractLsb 11 7), .reg (w.extractLsb 19 15), .imm (w.extractLsb 31 20).toInt]) ∧
    (w &&& 0x0000707f#32 = 0x00002013#32 →
      decode w = .decoded .SLTI
        [.reg (w.extractLsb 11 7), .reg (w.extractLsb 19 15), .imm (w.extractLsb 31 20).toInt]) ∧
    (w &&& 0x0000707f#32 = 0x00003013#32 →
      decode w = .decoded .SLTIU
        [.reg (w.extractLsb 11 7), .reg (w.extractLsb 19 15), .imm (w.extractLsb 31 20).toInt]) ∧
    (w &&& 0x0000707f#32 = 0x00004013#32 →
      decode w = .decoded .XORI
        [.reg (w.extractLsb 11 7), .reg (w.extractLsb 19 15), .imm (w.extractLsb 31 20).toInt]) ∧
    (w &&& 0x0000707f#32 = 0x00006013#32 →
      decode w = .decoded .ORI
        [.reg (w.extractLsb 11 7), .reg (w.extractLsb 19 15), .imm (w.extractLsb 31 20).toInt]) ∧
    (w &&& 0x0000707f#32 = 0x00007013#32 →
      decode w = .decoded .ANDI
        [.reg (w.extractLsb 11 7), .reg (w.extractLsb 19 15), .imm (w.extractLsb 31 20).toInt])

/-- Words with the keys of the 64-bit shift immediates: a 6-bit shift-type, a 6-bit amount (R99 to R101; D6, D9,
D12; operand order D11). -/
def Obligations.ShiftImmediateWordsDecode : Prop :=
  ∀ w : Word,
    (w &&& 0xfc00707f#32 = 0x00001013#32 →
      decode w = .decoded .SLLI
        [.reg (w.extractLsb 11 7), .reg (w.extractLsb 19 15), .imm (Int.ofNat (w.extractLsb 25 20).toNat)]) ∧
    (w &&& 0xfc00707f#32 = 0x00005013#32 →
      decode w = .decoded .SRLI
        [.reg (w.extractLsb 11 7), .reg (w.extractLsb 19 15), .imm (Int.ofNat (w.extractLsb 25 20).toNat)]) ∧
    (w &&& 0xfc00707f#32 = 0x40005013#32 →
      decode w = .decoded .SRAI
        [.reg (w.extractLsb 11 7), .reg (w.extractLsb 19 15), .imm (Int.ofNat (w.extractLsb 25 20).toNat)])

/-- Words with the keys of the immediate-ALU-word instructions: a 7-bit shift-type, a 5-bit amount (R102 to R105;
D6, D12; operand order of the three shifts D11). -/
def Obligations.WordImmediateWordsDecode : Prop :=
  ∀ w : Word,
    (w &&& 0x0000707f#32 = 0x0000001b#32 →
      decode w = .decoded .ADDIW
        [.reg (w.extractLsb 11 7), .reg (w.extractLsb 19 15), .imm (w.extractLsb 31 20).toInt]) ∧
    (w &&& 0xfe00707f#32 = 0x0000101b#32 →
      decode w = .decoded .SLLIW
        [.reg (w.extractLsb 11 7), .reg (w.extractLsb 19 15), .imm (Int.ofNat (w.extractLsb 24 20).toNat)]) ∧
    (w &&& 0xfe00707f#32 = 0x0000501b#32 →
      decode w = .decoded .SRLIW
        [.reg (w.extractLsb 11 7), .reg (w.extractLsb 19 15), .imm (Int.ofNat (w.extractLsb 24 20).toNat)]) ∧
    (w &&& 0xfe00707f#32 = 0x4000501b#32 →
      decode w = .decoded .SRAIW
        [.reg (w.extractLsb 11 7), .reg (w.extractLsb 19 15), .imm (Int.ofNat (w.extractLsb 24 20).toNat)])

/-- Words with the JALR key (R106; opcode value D4, operand order D11). -/
def Obligations.JalrWordsDecode : Prop :=
  ∀ w : Word,
    (w &&& 0x0000707f#32 = 0x00000067#32 →
      decode w = .decoded .JALR
        [.reg (w.extractLsb 11 7), .reg (w.extractLsb 19 15), .imm (w.extractLsb 31 20).toInt])

/-- Every word with a U opcode (R112, R113; which opcode is LUI D5, sign D10, operand order D11). -/
def Obligations.UpperImmediateWordsDecode : Prop :=
  ∀ w : Word,
    (w &&& 0x0000007f#32 = 0x00000037#32 →
      decode w = .decoded .LUI
        [.reg (w.extractLsb 11 7), .imm (w &&& 0xfffff000#32).toInt]) ∧
    (w &&& 0x0000007f#32 = 0x00000017#32 →
      decode w = .decoded .AUIPC
        [.reg (w.extractLsb 11 7), .imm (w &&& 0xfffff000#32).toInt])

/-- Words with the store keys (R116 to R119; operand order D11). -/
def Obligations.StoreWordsDecode : Prop :=
  ∀ w : Word,
    (w &&& 0x0000707f#32 = 0x00000023#32 →
      decode w = .decoded .SB
        [.reg (w.extractLsb 19 15), .reg (w.extractLsb 24 20), .imm (w.extractLsb 31 25 ++ w.extractLsb 11 7).toInt]) ∧
    (w &&& 0x0000707f#32 = 0x00001023#32 →
      decode w = .decoded .SH
        [.reg (w.extractLsb 19 15), .reg (w.extractLsb 24 20), .imm (w.extractLsb 31 25 ++ w.extractLsb 11 7).toInt]) ∧
    (w &&& 0x0000707f#32 = 0x00002023#32 →
      decode w = .decoded .SW
        [.reg (w.extractLsb 19 15), .reg (w.extractLsb 24 20), .imm (w.extractLsb 31 25 ++ w.extractLsb 11 7).toInt]) ∧
    (w &&& 0x0000707f#32 = 0x00003023#32 →
      decode w = .decoded .SD
        [.reg (w.extractLsb 19 15), .reg (w.extractLsb 24 20), .imm (w.extractLsb 31 25 ++ w.extractLsb 11 7).toInt])

/-- Words with the keys of the 64-bit-wide ALU instructions (R124 to R133; funct3 values D6, field positions D7). -/
def Obligations.AluWordsDecode : Prop :=
  ∀ w : Word,
    (w &&& 0xfe00707f#32 = 0x00000033#32 →
      decode w = .decoded .ADD
        [.reg (w.extractLsb 11 7), .reg (w.extractLsb 19 15), .reg (w.extractLsb 24 20)]) ∧
    (w &&& 0xfe00707f#32 = 0x40000033#32 →
      decode w = .decoded .SUB
        [.reg (w.extractLsb 11 7), .reg (w.extractLsb 19 15), .reg (w.extractLsb 24 20)]) ∧
    (w &&& 0xfe00707f#32 = 0x00001033#32 →
      decode w = .decoded .SLL
        [.reg (w.extractLsb 11 7), .reg (w.extractLsb 19 15), .reg (w.extractLsb 24 20)]) ∧
    (w &&& 0xfe00707f#32 = 0x00002033#32 →
      decode w = .decoded .SLT
        [.reg (w.extractLsb 11 7), .reg (w.extractLsb 19 15), .reg (w.extractLsb 24 20)]) ∧
    (w &&& 0xfe00707f#32 = 0x00003033#32 →
      decode w = .decoded .SLTU
        [.reg (w.extractLsb 11 7), .reg (w.extractLsb 19 15), .reg (w.extractLsb 24 20)]) ∧
    (w &&& 0xfe00707f#32 = 0x00004033#32 →
      decode w = .decoded .XOR
        [.reg (w.extractLsb 11 7), .reg (w.extractLsb 19 15), .reg (w.extractLsb 24 20)]) ∧
    (w &&& 0xfe00707f#32 = 0x00005033#32 →
      decode w = .decoded .SRL
        [.reg (w.extractLsb 11 7), .reg (w.extractLsb 19 15), .reg (w.extractLsb 24 20)]) ∧
    (w &&& 0xfe00707f#32 = 0x40005033#32 →
      decode w = .decoded .SRA
        [.reg (w.extractLsb 11 7), .reg (w.extractLsb 19 15), .reg (w.extractLsb 24 20)]) ∧
    (w &&& 0xfe00707f#32 = 0x00006033#32 →
      decode w = .decoded .OR
        [.reg (w.extractLsb 11 7), .reg (w.extractLsb 19 15), .reg (w.extractLsb 24 20)]) ∧
    (w &&& 0xfe00707f#32 = 0x00007033#32 →
      decode w = .decoded .AND
        [.reg (w.extractLsb 11 7), .reg (w.extractLsb 19 15), .reg (w.extractLsb 24 20)])

/-- Words with the keys of the word-sized ALU instructions (R134 to R138; opcode value D4, D6, D7). -/
def Obligations.WordAluWordsDecode : Prop :=
  ∀ w : Word,
    (w &&& 0xfe00707f#32 = 0x0000003b#32 →
      decode w = .decoded .ADDW
        [.reg (w.extractLsb 11 7), .reg (w.extractLsb 19 15), .reg (w.extractLsb 24 20)]) ∧
    (w &&& 0xfe00707f#32 = 0x4000003b#32 →
      decode w = .decoded .SUBW
        [.reg (w.extractLsb 11 7), .reg (w.extractLsb 19 15), .reg (w.extractLsb 24 20)]) ∧
    (w &&& 0xfe00707f#32 = 0x0000103b#32 →
      decode w = .decoded .SLLW
        [.reg (w.extractLsb 11 7), .reg (w.extractLsb 19 15), .reg (w.extractLsb 24 20)]) ∧
    (w &&& 0xfe00707f#32 = 0x0000503b#32 →
      decode w = .decoded .SRLW
        [.reg (w.extractLsb 11 7), .reg (w.extractLsb 19 15), .reg (w.extractLsb 24 20)]) ∧
    (w &&& 0xfe00707f#32 = 0x4000503b#32 →
      decode w = .decoded .SRAW
        [.reg (w.extractLsb 11 7), .reg (w.extractLsb 19 15), .reg (w.extractLsb 24 20)])

/-- Words with the branch keys: the reassembled offset, reported for all six (R143 to R148; operand order D11). -/
def Obligations.BranchWordsDecode : Prop :=
  ∀ w : Word,
    (w &&& 0x0000707f#32 = 0x00000063#32 →
      decode w = .decoded .BEQ
        [.reg (w.extractLsb 19 15), .reg (w.extractLsb 24 20), .imm (w.extractLsb 31 31 ++ w.extractLsb 7 7 ++ w.extractLsb 30 25 ++ w.extractLsb 11 8 ++ 0#1).toInt]) ∧
    (w &&& 0x0000707f#32 = 0x00001063#32 →
      decode w = .decoded .BNE
        [.reg (w.extractLsb 19 15), .reg (w.extractLsb 24 20), .imm (w.extractLsb 31 31 ++ w.extractLsb 7 7 ++ w.extractLsb 30 25 ++ w.extractLsb 11 8 ++ 0#1).toInt]) ∧
    (w &&& 0x0000707f#32 = 0x00004063#32 →
      decode w = .decoded .BLT
        [.reg (w.extractLsb 19 15), .reg (w.extractLsb 24 20), .imm (w.extractLsb 31 31 ++ w.extractLsb 7 7 ++ w.extractLsb 30 25 ++ w.extractLsb 11 8 ++ 0#1).toInt]) ∧
    (w &&& 0x0000707f#32 = 0x00005063#32 →
      decode w = .decoded .BGE
        [.reg (w.extractLsb 19 15), .reg (w.extractLsb 24 20), .imm (w.extractLsb 31 31 ++ w.extractLsb 7 7 ++ w.extractLsb 30 25 ++ w.extractLsb 11 8 ++ 0#1).toInt]) ∧
    (w &&& 0x0000707f#32 = 0x00006063#32 →
      decode w = .decoded .BLTU
        [.reg (w.extractLsb 19 15), .reg (w.extractLsb 24 20), .imm (w.extractLsb 31 31 ++ w.extractLsb 7 7 ++ w.extractLsb 30 25 ++ w.extractLsb 11 8 ++ 0#1).toInt]) ∧
    (w &&& 0x0000707f#32 = 0x00007063#32 →
      decode w = .decoded .BGEU
        [.reg (w.extractLsb 19 15), .reg (w.extractLsb 24 20), .imm (w.extractLsb 31 31 ++ w.extractLsb 7 7 ++ w.extractLsb 30 25 ++ w.extractLsb 11 8 ++ 0#1).toInt])

/-- Every word with the JAL opcode (R152; operand order D11). -/
def Obligations.JalWordsDecode : Prop :=
  ∀ w : Word,
    (w &&& 0x0000007f#32 = 0x0000006f#32 →
      decode w = .decoded .JAL
        [.reg (w.extractLsb 11 7), .imm (w.extractLsb 31 31 ++ w.extractLsb 19 12 ++ w.extractLsb 20 20 ++ w.extractLsb 30 21 ++ 0#1).toInt])

/-- R107, R108, R109: of the words with the SYSTEM opcode exactly two are defined, ECALL and EBREAK; any other
imm, rd, rs1 or funct3 is Undefined. -/
def Obligations.SystemGroupHasTwoWords : Prop :=
  ∀ w : Word, opcode w = 0b1110011#7 →
    (funct3 w = 0#3 ∧ rdField w = 0#5 ∧ rs1Field w = 0#5 ∧ imm12Field w = 0#12 →
      w = 0x00000073#32 ∧ decode w = .decoded .ECALL []) ∧
    (funct3 w = 0#3 ∧ rdField w = 0#5 ∧ rs1Field w = 0#5 ∧ imm12Field w = 1#12 →
      w = 0x00100073#32 ∧ decode w = .decoded .EBREAK []) ∧
    (¬ (funct3 w = 0#3 ∧ rdField w = 0#5 ∧ rs1Field w = 0#5 ∧ (imm12Field w = 0#12 ∨ imm12Field w = 1#12)) →
      decode w = .undefined)

/-- R122, the tie-break, for both R opcodes: at funct3 000 and 101 funct7 0 and 0100000 select the documented pair
and any third funct7 is Undefined; at the other funct3 values funct7 must be 0, and in the word family only 001 has
a mnemonic. Rests on D4 (the word family's opcode) and D6 (funct3 values). -/
def Obligations.TieBreakSelectsThePair : Prop :=
  ∀ w : Word,
    (opcode w = 0b0110011#7 →
      (funct3 w = 0b000#3 → funct7 w = 0b0000000#7 → ∃ ops, decode w = .decoded .ADD ops) ∧
      (funct3 w = 0b000#3 → funct7 w = 0b0100000#7 → ∃ ops, decode w = .decoded .SUB ops) ∧
      (funct3 w = 0b101#3 → funct7 w = 0b0000000#7 → ∃ ops, decode w = .decoded .SRL ops) ∧
      (funct3 w = 0b101#3 → funct7 w = 0b0100000#7 → ∃ ops, decode w = .decoded .SRA ops) ∧
      (funct3 w = 0b000#3 ∨ funct3 w = 0b101#3 → funct7 w ≠ 0b0000000#7 → funct7 w ≠ 0b0100000#7 →
        decode w = .undefined) ∧
      (funct3 w ≠ 0b000#3 → funct3 w ≠ 0b101#3 → (decode w = .undefined ↔ funct7 w ≠ 0b0000000#7))) ∧
    (opcode w = 0b0111011#7 →
      (funct3 w = 0b000#3 → funct7 w = 0b0000000#7 → ∃ ops, decode w = .decoded .ADDW ops) ∧
      (funct3 w = 0b000#3 → funct7 w = 0b0100000#7 → ∃ ops, decode w = .decoded .SUBW ops) ∧
      (funct3 w = 0b101#3 → funct7 w = 0b0000000#7 → ∃ ops, decode w = .decoded .SRLW ops) ∧
      (funct3 w = 0b101#3 → funct7 w = 0b0100000#7 → ∃ ops, decode w = .decoded .SRAW ops) ∧
      (funct3 w = 0b000#3 ∨ funct3 w = 0b101#3 → funct7 w ≠ 0b0000000#7 → funct7 w ≠ 0b0100000#7 →
        decode w = .undefined) ∧
      (funct3 w = 0b001#3 → (decode w = .undefined ↔ funct7 w ≠ 0b0000000#7)) ∧
      (funct3 w ≠ 0b000#3 → funct3 w ≠ 0b001#3 → funct3 w ≠ 0b101#3 → decode w = .undefined))

/-- A few words written out bit by bit from the encodings, with what they decode to (95_test_vectors.md S1, S1a,
S2, S3, S4, S5, S6 and examples of R85, R92, R112, R118, R146). -/
def Obligations.SpecWordsDecodeAsPrinted : Prop :=
  decode 0b000000011000_10001_000_10001_0011011#32 = .decoded .ADDIW [.reg 17, .reg 17, .imm 24] ∧
  decode 0b0000000_11000_10001_101_10001_0011011#32 = .decoded .SRLIW [.reg 17, .reg 17, .imm 24] ∧
  decode 0b000000000000_00000_000_00000_0010011#32 = .decoded .ADDI [.reg 0, .reg 0, .imm 0] ∧
  decode 0b000000000001_00000_000_00000_1110011#32 = .decoded .EBREAK [] ∧
  decode 0b0100000_00011_00010_000_00001_0110011#32 = .decoded .SUB [.reg 1, .reg 2, .reg 3] ∧
  decode 0b0000001_00011_00010_000_00001_0110011#32 = .undefined ∧
  decode 0b1_1111111110_1_11111111_00000_1101111#32 = .decoded .JAL [.reg 0, .imm (-4)] ∧
  decode 0b111111111000_00010_000_00001_0000011#32 = .decoded .LB [.reg 1, .reg 2, .imm (-8)] ∧
  decode 0b1000_0011_0011_00000_000_00000_0001111#32 = .decoded .FENCE [.imm 3, .imm 3, .imm 8] ∧
  decode 0b00010010001101000101_00001_0110111#32 = .decoded .LUI [.reg 1, .imm 305418240] ∧
  decode 0b0111111_01010_00010_010_11111_0100011#32 = .decoded .SW [.reg 2, .reg 10, .imm 2047] ∧
  decode 0b0_111111_00110_00101_101_1111_1_1100011#32 = .decoded .BGE [.reg 5, .reg 6, .imm 4094]

/-! ## The function as a whole -/

/-- R154: the staged pipeline is the search of the 52 match/mask rows, with the operands each row's rule reads from
the word (derived there from the resolver rules; the numbers rest on D4 to D13). -/
def Obligations.DecodeIsTheTableSearch : Prop := ∀ w : Word, decode w = tableDecode w

/-- R69: the 52 rows are pairwise disjoint (derived there from R67). -/
def Obligations.TableRowsAreDisjoint : Prop :=
  opcodeTable.length = 52 ∧
  ∀ r₁ ∈ opcodeTable, ∀ r₂ ∈ opcodeTable, ∀ w : Word, r₁.hits w = true → r₂.hits w = true → r₁ = r₂

/-- R71: a word is Undefined exactly when one of the eleven numbered conditions holds (numbers: D4, D6, D9). -/
def Obligations.UndefinedIsTheIllegalSpace : Prop :=
  ∀ w : Word, decode w = .undefined ↔ illegalSpace w = true

/-- R70: 210,501,634 words decode to an instruction and 4,084,465,662 to Undefined (counted there from the masks). The
numbers rest on D4, D6, D9 and D13 (log entry 5): a 7-bit shift-type for all shifts, the alternative to D9, would
refuse 3 x 2^15 words more. -/
def Obligations.DefinedAndUndefinedWordCounts : Prop :=
  Nat.card (Subtype fun w : Word => decode w ≠ .undefined) = 210501634 ∧
  Nat.card (Subtype fun w : Word => decode w = .undefined) = 4084465662

/-- R67: every one of the 52 mnemonics is recognised in some word, and it is the mnemonic's own opcode group and
format that its words have. -/
def Obligations.EveryMnemonicIsRecognised : Prop :=
  (∀ m : Mnemonic, ∃ (w : Word) (ops : List Operand), decode w = .decoded m ops) ∧
  (∀ (w : Word) (m : Mnemonic) (ops : List Operand), decode w = .decoded m ops →
    groupOf (opcode w) = some m.group ∧ classify (opcode w) = some m.format)

/-- R79, "Format determinism": words that share an opcode have the same classification, and if both decode the two
instructions have the same format and the same opcode group. -/
def Obligations.FormatDeterminism : Prop :=
  ∀ w₁ w₂ : Word, opcode w₁ = opcode w₂ →
    classify (opcode w₁) = classify (opcode w₂) ∧
    ∀ (m₁ m₂ : Mnemonic) (o₁ o₂ : List Operand), decode w₁ = .decoded m₁ o₁ → decode w₂ = .decoded m₂ o₂ →
      m₁.format = m₂.format ∧ m₁.group = m₂.group

/-- A word whose opcode has no format is Undefined (R78, "no fallback/default format guess"), and no resolver of any
format answers for it (R155, decision D19, and the otherwise arms of R83, R111, R115, R121, R141, R151; log
entry 5). -/
def Obligations.OpcodeOutsideTheTableIsUndefined : Prop :=
  ∀ w : Word, classify (opcode w) = none → decode w = .undefined ∧ ∀ f : Format, resolve f w = none

/-- A word refused by the resolver its opcode selects is Undefined (R156), and no resolver of another format answers for
it (R155, decision D19, log entry 5). -/
def Obligations.NoFallThrough : Prop :=
  ∀ (w : Word) (f : Format), classify (opcode w) = some f → resolve f w = none →
    decode w = .undefined ∧ ∀ g : Format, resolve g w = none

/-- R155: the parallel multiplexer, the OR of the six candidates and the lazy pipeline are one function, and at most
one candidate is an instruction (the hardware form is D19). -/
def Obligations.MultiplexerFormsAgree : Prop :=
  ∀ w : Word, decodeParallel w = decodeWord w ∧ decodeOr w = decodeWord w ∧
    ∀ f g : Format, resolve f w ≠ none → resolve g w ≠ none → f = g

/-- R160: two words with the same defined result are the same word, FENCE apart, whose words may differ in `w[11:7]`
and `w[19:15]` and nowhere else; and FENCE words that differ only there do have the same result (D13). -/
def Obligations.ResultsDetermineTheWord : Prop :=
  (∀ w₁ w₂ : Word, decode w₁ = decode w₂ → decode w₁ ≠ .undefined →
    w₁ = w₂ ∨ (opcode w₁ = 0b0001111#7 ∧ w₁ &&& 0xfff0707f#32 = w₂ &&& 0xfff0707f#32)) ∧
  (∀ w₁ w₂ : Word, opcode w₁ = 0b0001111#7 → w₁ &&& 0xfff0707f#32 = w₂ &&& 0xfff0707f#32 → decode w₁ = decode w₂)

/-- R158, R157, R65: every result is Undefined or complete: the operand list has the mnemonic's length and kinds, its
immediates in range, its B and J offsets even, its U immediate a multiple of 4096 (orders D11 to D13, sign D10). -/
def Obligations.EveryResultIsComplete : Prop := ∀ w : Word, (decode w).complete = true

/-! ## Encoding and decoding -/

/-- For every well-formed instruction, decoding its encoding gives it back, with every operand at every value the
encoding admits; for FENCE the ignored `rd` and `rs1` too, which the model's `Instr.fence` carries (log entry 6). -/
def Obligations.DecodeOfEncode : Prop :=
  ∀ i : Instr, i.wellFormed = true → decodeWord (encode i) = some i

/-- Every word that decodes is the encoding of what it decodes to, and that instruction is well formed: decodeWord drops
no bit of a defined word. For FENCE this holds because the model's `Instr.fence` carries the ignored `rd` and `rs1`
(log entry 6, DESIGN CHOICE); the reported result does not determine those ten bits (R160, D13), as
`ResultsDetermineTheWord` says. -/
def Obligations.EncodeOfDecode : Prop :=
  ∀ (w : Word) (i : Instr), decodeWord w = some i → encode i = w ∧ i.wellFormed = true

/-- R38 (D16): the caller's little-endian assembly, and the split of a stream into words. -/
def Obligations.StreamBytesAreLittleEndian : Prop :=
  (∀ b0 b1 b2 b3 : Byte, (wordOfBytes b0 b1 b2 b3).toNat =
    b0.toNat + 2 ^ 8 * b1.toNat + 2 ^ 16 * b2.toNat + 2 ^ 24 * b3.toNat) ∧
  (∀ (w : Word) (rest : List Byte), wordsOfStream (bytesOfWord w ++ rest) = w :: wordsOfStream rest)

/-! ## Immediates -/

/-- R58, R61, R62, R64: the I, S, B and J immediates are their fragments at their weights, less 2^k when the top bit
`w[31]` is set: sign-extension from bit 11, 11, 12 and 20; their ranges, and bit 0 of B and J; the raw `imm12` is what
the I extractor hands on, and `imm_I` is the reported operand of the loads, ADDI to ANDI, ADDIW and JALR, the last one
of the list (decision D11 for the loads and JALR, log entry 5). -/
def Obligations.ImmediatesAreTheSignedSums : Prop :=
  (∀ w : Word,
    let u := fun (hi lo : Nat) => ((w.extractLsb hi lo).toNat : Int)
    (extractI w).imm12 = w.extractLsb 31 20 ∧
    (immI w = u 31 20 - 4096 * u 31 31 ∧ -2048 ≤ immI w ∧ immI w ≤ 2047) ∧
    (immS w = 32 * u 31 25 + u 11 7 - 4096 * u 31 31 ∧ -2048 ≤ immS w ∧ immS w ≤ 2047) ∧
    (immB w = 4096 * u 31 31 + 2048 * u 7 7 + 32 * u 30 25 + 2 * u 11 8 - 8192 * u 31 31 ∧
      immB w % 2 = 0 ∧ -4096 ≤ immB w ∧ immB w ≤ 4094) ∧
    (immJ w = 1048576 * u 31 31 + 4096 * u 19 12 + 2048 * u 20 20 + 2 * u 30 21 - 2097152 * u 31 31 ∧
      immJ w % 2 = 0 ∧ -1048576 ≤ immJ w ∧ immJ w ≤ 1048574)) ∧
  (∀ (w : Word) (m : Mnemonic) (ops : List Operand), decode w = .decoded m ops →
    m ∈ [Mnemonic.LB, .LH, .LW, .LD, .LBU, .LHU, .LWU, .ADDI, .SLTI, .SLTIU, .XORI, .ORI, .ANDI, .ADDIW, .JALR] →
    ops.getLast? = some (.imm (immI w)))

/-- R65, R63: in every format with a signed immediate the sign bit is `w[31]`; the U immediate is the upper 20 bits at
bit 12, sign-extended (D10); R65 itself is derived in the spec from R58 and R61 to R64. -/
def Obligations.SignBitIsTheTopBitOfTheWord : Prop :=
  ∀ w : Word,
    (immI w < 0 ↔ w.getLsbD 31 = true) ∧ (immS w < 0 ↔ w.getLsbD 31 = true) ∧ (immB w < 0 ↔ w.getLsbD 31 = true) ∧
    (immU w < 0 ↔ w.getLsbD 31 = true) ∧ (immJ w < 0 ↔ w.getLsbD 31 = true) ∧
    immU w = 4096 * ((w.extractLsb 31 12).toNat : Int) - 4294967296 * ((w.extractLsb 31 31).toNat : Int)

/-- R40: every reported branch and JAL offset is even, and an even offset that is no multiple of 4 is reported like
any other. That every even offset of the whole range is the operand of some word of each branch and of some JAL word
rests on R62, R64 and R66, and that it is the last operand on decision D11 (log entry 5). -/
def Obligations.BranchAndJalOffsetsAreEven : Prop :=
  (∀ (w : Word) (m : Mnemonic) (ops : List Operand), decode w = .decoded m ops → m.format = .B ∨ m.format = .J →
    ∃ v : Int, ops.getLast? = some (.imm v) ∧ v % 2 = 0) ∧
  (∀ (m : Mnemonic) (v : Int), m.format = .B → -4096 ≤ v → v ≤ 4094 → v % 2 = 0 →
    ∃ (w : Word) (ops : List Operand), decode w = .decoded m ops ∧ ops.getLast? = some (.imm v)) ∧
  (∀ (m : Mnemonic) (v : Int), m.format = .J → -1048576 ≤ v → v ≤ 1048574 → v % 2 = 0 →
    ∃ (w : Word) (ops : List Operand), decode w = .decoded m ops ∧ ops.getLast? = some (.imm v))

/-- R66 for B: `scatter_B` and the B assembler are inverse to each other, and the built word decodes to the offset
(the inverse map is derived in the spec from R62). The operand list of BEQ is R141 and R143, its order decision D11
(log entry 5). -/
def Obligations.BranchOffsetRoundTrip : Prop :=
  (∀ v : Int, -4096 ≤ v → v ≤ 4094 → v % 2 = 0 →
    immB (scatterB v) = v ∧
      decode (0x00000063#32 ||| scatterB v) = .decoded .BEQ [.reg 0#5, .reg 0#5, .imm v]) ∧
  (∀ w : Word, scatterB (immB w) = w &&& 0xfe000f80#32)

/-- R66 for J: `scatter_J` and the J assembler are inverse to each other, and the built word decodes to the offset (the
inverse map is derived in the spec from R64). The operand list of JAL is R151 and R152, its order decision D11 (log
entry 5). -/
def Obligations.JalOffsetRoundTrip : Prop :=
  (∀ v : Int, -1048576 ≤ v → v ≤ 1048574 → v % 2 = 0 →
    immJ (scatterJ v) = v ∧ decode (0x0000006f#32 ||| scatterJ v) = .decoded .JAL [.reg 0#5, .imm v]) ∧
  (∀ w : Word, scatterJ (immJ w) = w &&& 0xfffff000#32)

/-! ## Ports (R33 to R35: the spec's decisions D1, D2, D3, D14) -/

/-- R35, R34, R33: under `undefined_o` every other output is 0, `undefined_o` is 1 exactly for Undefined, and the codes
7 and 53 to 63 are never produced. -/
def Obligations.PortsUnderUndefinedAreZero : Prop :=
  (∀ w : Word, decode w = .undefined → portsOf (decode w) =
    Ports.mk true 0#3 0#6 false false false false false 0#5 0#5 0#5 0#64 0#4 0#4 0#4) ∧
  (∀ w : Word, (portsOf (decode w)).undefinedO = true ↔ decode w = .undefined) ∧
  (∀ w : Word, (portsOf (decode w)).formatO ≠ 7#3 ∧ (portsOf (decode w)).mnemonicO.toNat ≤ 52)

/-- R33, R34, R35: each port carries the operand of its name, the immediate sign-extended to 64 bits, and is 0 when the
operand list has no such operand; for a defined word `format_o` and `mnemonic_o` carry the codes of R34, written out
here (decisions D1, D2, D3, D14). -/
def Obligations.PortsCarryTheOperands : Prop :=
  ∀ w : Word,
    let r := decode w
    let p := portsOf r
    (p.hasRd = true → r.operand .rd = some (.reg p.rdO)) ∧ (p.hasRd = false → p.rdO = 0#5 ∧ r.operand .rd = none) ∧
    (p.hasRs1 = true → r.operand .rs1 = some (.reg p.rs1O)) ∧
    (p.hasRs1 = false → p.rs1O = 0#5 ∧ r.operand .rs1 = none) ∧
    (p.hasRs2 = true → r.operand .rs2 = some (.reg p.rs2O)) ∧
    (p.hasRs2 = false → p.rs2O = 0#5 ∧ r.operand .rs2 = none) ∧
    (p.hasImm = true → r.operand .imm = some (.imm p.immO.toInt) ∨ r.operand .shamt = some (.imm p.immO.toInt)) ∧
    (p.hasImm = false → p.immO = 0#64 ∧ r.operand .imm = none ∧ r.operand .shamt = none) ∧
    (p.hasFence = true → r.operand .succ = some (.imm (Int.ofNat p.succO.toNat)) ∧
      r.operand .pred = some (.imm (Int.ofNat p.predO.toNat)) ∧ r.operand .fm = some (.imm (Int.ofNat p.fmO.toNat))) ∧
    (p.hasFence = false → (p.succO = 0#4 ∧ p.predO = 0#4 ∧ p.fmO = 0#4) ∧
      r.operand .succ = none ∧ r.operand .pred = none ∧ r.operand .fm = none) ∧
    (∀ (m : Mnemonic) (ops : List Operand), r = .decoded m ops →
      (m.format, p.formatO) ∈ [(Format.R, 1#3), (.I, 2#3), (.S, 3#3), (.B, 4#3), (.U, 5#3), (.J, 6#3)] ∧
      (m, p.mnemonicO) ∈
        [(Mnemonic.LB, 1#6), (.LH, 2#6), (.LW, 3#6), (.LBU, 4#6), (.LHU, 5#6), (.LWU, 6#6), (.LD, 7#6), (.FENCE, 8#6),
        (.ADDI, 9#6), (.SLTI, 10#6), (.SLTIU, 11#6), (.XORI, 12#6), (.ORI, 13#6), (.ANDI, 14#6), (.SLLI, 15#6), (.SRLI, 16#6),
        (.SRAI, 17#6), (.ADDIW, 18#6), (.SLLIW, 19#6), (.SRLIW, 20#6), (.SRAIW, 21#6), (.JALR, 22#6), (.ECALL, 23#6), (.EBREAK, 24#6),
        (.LUI, 25#6), (.AUIPC, 26#6), (.SB, 27#6), (.SH, 28#6), (.SW, 29#6), (.SD, 30#6), (.ADD, 31#6), (.SUB, 32#6),
        (.SLL, 33#6), (.SLT, 34#6), (.SLTU, 35#6), (.XOR, 36#6), (.SRL, 37#6), (.SRA, 38#6), (.OR, 39#6), (.AND, 40#6),
        (.ADDW, 41#6), (.SUBW, 42#6), (.SLLW, 43#6), (.SRLW, 44#6), (.SRAW, 45#6), (.BEQ, 46#6), (.BNE, 47#6), (.BLT, 48#6),
        (.BGE, 49#6), (.BLTU, 50#6), (.BGEU, 51#6), (.JAL, 52#6)])

/-- R35: "The map from DecodeResult to the port bundle is injective" on what the decoder produces: equal ports mean an
equal result. -/
def Obligations.PortsLoseNothing : Prop :=
  ∀ w₁ w₂ : Word, portsOf (decode w₁) = portsOf (decode w₂) → decode w₁ = decode w₂

/-! ## The machine's step -/

/-- A step runs the decoded instruction. When the next word `w` of the stream decodes to `i`, that is a well-formed
instruction and the step is exec of `i` at the state in which `w` is presented, after which the caller takes the
result; with no next word the step is exec of the instruction the held input decodes to (log entry 3). -/
def Obligations.StepRunsTheDecodedInstruction : Prop :=
  ∀ (s : State) (i : Instr),
    (∀ (w : Word) (ws : List Word), s.stream = w :: ws → decodeWord w = some i →
      i.wellFormed = true ∧
      step s =
        match exec i (State.mk w s.result ws s.delivered) with
        | .next t => .next (State.mk t.instrI t.result t.stream (t.delivered ++ [t.result]))
        | .fault f => .fault f
        | .refused r => .refused r) ∧
    (s.stream = [] → decodeWord s.instrI = some i → i.wellFormed = true ∧ step s = exec i s)

/-- R163, R169, R170: a word that decodes to nothing makes the step deliver Undefined, with no payload, and change
nothing else; the stream goes on behind it. (The interface in State: log entries 1 and 3; that the caller goes on after
Undefined: log entry 11.) -/
def Obligations.StepOnAnUndefinedWord : Prop :=
  ∀ (s : State) (w : Word) (ws : List Word), s.stream = w :: ws → decodeWord w = none →
    step s = .next (State.mk w .undefined ws (s.delivered ++ [.undefined]))

/-- With no word left to present, the step makes the outputs `decode(instr_i)` and changes nothing else (R36, R178;
log entry 3: this is the model's choice of what a step without a new word is). -/
def Obligations.StepWithoutANewWordFollowsTheInput : Prop :=
  ∀ s : State, s.stream = [] → step s = .next (State.mk s.instrI (decode s.instrI) [] s.delivered)

/-- In every state the step answers a next state, never a fault and never a refusal (R159, R165), and the result on the
outputs is that of the instruction the presented word decodes to, or Undefined where it decodes to none. Which word a
step presents is the model's choice (log entry 3). -/
def Obligations.EveryStepCompletes : Prop :=
  ∀ s : State, ∃ t : State, step s = .next t ∧
    (t.instrI = (s.stream.head?).getD s.instrI) ∧
    ((∃ i : Instr, decodeWord t.instrI = some i ∧ t.result = .decoded i.mnemonic i.operands) ∨
      (decodeWord t.instrI = none ∧ t.result = .undefined))

/-- R21, R159, R165: evaluating the decoder completes for every word and in every state, with an instruction's result or
Undefined and never a fault or a refusal; the same word gives the same result whatever else the two states hold, and
nothing but the result is written. -/
def Obligations.SameWordSameResult : Prop :=
  ∀ (s₁ s₂ : State), s₁.instrI = s₂.instrI →
    ∃ r : DecodeResult,
      evaluate s₁ = .next (State.mk s₁.instrI r s₁.stream s₁.delivered) ∧
      evaluate s₂ = .next (State.mk s₂.instrI r s₂.stream s₂.delivered) ∧
      (r = .undefined ∨ ∃ i : Instr, i.wellFormed = true ∧ r = .decoded i.mnemonic i.operands)

/-- A run over the stream delivers one result per word, in order, each of them `decode` of its own word, whatever the
other words are, and an Undefined one stops nothing (R161, R20, R176). The stream, the delivered results and what a
step is are the model's choice (log entries 1 and 3), and so is that the caller goes on after an Undefined result (log
entry 11). -/
def Obligations.RunDeliversDecodeOfEachWord : Prop :=
  ∀ (k : Nat) (s : State), k ≤ s.stream.length →
    ∃ t : State, Host.Core.run core k s = .next t ∧ t.stream = s.stream.drop k ∧
      t.delivered = s.delivered ++ (s.stream.take k).map decode

/-- The invariant of the interface is kept by every step from every state that has it: the outputs are
`decode(instr_i)` (R36, R174) and every result taken is complete (R158). -/
def Obligations.StepKeepsTheInvariant : Prop :=
  ∀ s t : State, s.Inv → step s = .next t → t.Inv

/-- The invariant holds after reset. That `instr_i` is 0 there is log entry 2, that `delivered` is empty log entry 1. -/
def Obligations.ResetHasTheInvariant : Prop := State.reset.Inv

/-- After reset: nothing has been presented or taken, and the outputs are those of the word at `instr_i`, Undefined with
every other port 0. That `instr_i` is 0 is the model's choice (log entry 2), and so is that the model's own lists
`stream` and `delivered` are there and empty (log entry 1). -/
def Obligations.ResetOutputsAreUndefined : Prop :=
  State.reset.instrI = 0#32 ∧ State.reset.result = decode State.reset.instrI ∧ State.reset.stream = [] ∧
    State.reset.delivered = [] ∧ State.reset.ports =
      Ports.mk true 0#3 0#6 false false false false false 0#5 0#5 0#5 0#64 0#4 0#4 0#4
end

