-- ==== Sys2Proof/Laws/Bits.lean ====
section
/-! SUPPORT. Bit i of every concatenation that Decode.lean builds, as a choice of fragment: the one place
where the concatenations are unfolded. -/

namespace Sys2Proof

theorem getLsbD_encodeR (f7 f3 op rd rs1 rs2) (i : Nat) : (encodeR f7 f3 op rd rs1 rs2).getLsbD i =
    if i < 7 then op.getLsbD i else if i < 12 then rd.getLsbD (i - 7) else if i < 15 then f3.getLsbD (i - 12)
    else if i < 20 then rs1.getLsbD (i - 15) else if i < 25 then rs2.getLsbD (i - 20) else f7.getLsbD (i - 25) := by
  unfold encodeR
  change @BitVec.getLsbD (7 + 5 + 5 + 3 + 5 + 7) (f7 ++ rs2 ++ rs1 ++ f3 ++ rd ++ op) i = _
  simp only [BitVec.getLsbD_append]
  grind

theorem getLsbD_encodeI (f3 op rd rs1 imm) (i : Nat) : (encodeI f3 op rd rs1 imm).getLsbD i =
    if i < 7 then op.getLsbD i else if i < 12 then rd.getLsbD (i - 7) else if i < 15 then f3.getLsbD (i - 12)
    else if i < 20 then rs1.getLsbD (i - 15) else imm.getLsbD (i - 20) := by
  unfold encodeI
  change @BitVec.getLsbD (12 + 5 + 3 + 5 + 7) (imm ++ rs1 ++ f3 ++ rd ++ op) i = _
  simp only [BitVec.getLsbD_append]
  grind

theorem getLsbD_encodeS (f3 op rs1 rs2 imm) (i : Nat) : (encodeS f3 op rs1 rs2 imm).getLsbD i =
    if i < 7 then op.getLsbD i else if i < 12 then imm.getLsbD (i - 7) else if i < 15 then f3.getLsbD (i - 12)
    else if i < 20 then rs1.getLsbD (i - 15) else if i < 25 then rs2.getLsbD (i - 20) else imm.getLsbD (i - 20) := by
  unfold encodeS
  change @BitVec.getLsbD (7 + 5 + 5 + 3 + 5 + 7)
    (imm.extractLsb 11 5 ++ rs2 ++ rs1 ++ f3 ++ imm.extractLsb 4 0 ++ op) i = _
  simp only [BitVec.getLsbD_append, BitVec.getLsbD_extractLsb]
  grind

theorem getLsbD_encodeB (f3 op rs1 rs2 imm) (i : Nat) : (encodeB f3 op rs1 rs2 imm).getLsbD i =
    if i < 7 then op.getLsbD i else if i < 8 then imm.getLsbD 11 else if i < 12 then imm.getLsbD (i - 7)
    else if i < 15 then f3.getLsbD (i - 12) else if i < 20 then rs1.getLsbD (i - 15)
    else if i < 25 then rs2.getLsbD (i - 20) else if i < 31 then imm.getLsbD (i - 20)
    else (decide (i = 31) && imm.getLsbD 12) := by
  unfold encodeB
  change @BitVec.getLsbD (1 + 6 + 5 + 5 + 3 + 4 + 1 + 7) (imm.extractLsb 12 12 ++ imm.extractLsb 10 5 ++ rs2 ++ rs1
    ++ f3 ++ imm.extractLsb 4 1 ++ imm.extractLsb 11 11 ++ op) i = _
  simp only [BitVec.getLsbD_append, BitVec.getLsbD_extractLsb]
  grind

theorem getLsbD_encodeU (op rd imm) (i : Nat) : (encodeU op rd imm).getLsbD i =
    if i < 7 then op.getLsbD i else if i < 12 then rd.getLsbD (i - 7) else imm.getLsbD i := by
  unfold encodeU
  change @BitVec.getLsbD (20 + 5 + 7) (imm.extractLsb 31 12 ++ rd ++ op) i = _
  simp only [BitVec.getLsbD_append, BitVec.getLsbD_extractLsb]
  grind

theorem getLsbD_encodeJ (op rd imm) (i : Nat) : (encodeJ op rd imm).getLsbD i =
    if i < 7 then op.getLsbD i else if i < 12 then rd.getLsbD (i - 7) else if i < 20 then imm.getLsbD i
    else if i < 21 then imm.getLsbD 11 else if i < 31 then imm.getLsbD (i - 20)
    else (decide (i = 31) && imm.getLsbD 20) := by
  unfold encodeJ
  change @BitVec.getLsbD (1 + 10 + 1 + 8 + 5 + 7) (imm.extractLsb 20 20 ++ imm.extractLsb 10 1 ++ imm.extractLsb 11 11
    ++ imm.extractLsb 19 12 ++ rd ++ op) i = _
  simp only [BitVec.getLsbD_append, BitVec.getLsbD_extractLsb]
  grind

theorem getLsbD_immS (w : Word) (i : Nat) : (extractS w).imm.getLsbD i =
    if i < 5 then w.getLsbD (i + 7) else (decide (i < 12) && w.getLsbD (i + 20)) := by
  unfold extractS SFields.imm
  change @BitVec.getLsbD (7 + 5) (w.extractLsb 31 25 ++ w.extractLsb 11 7) i = _
  simp only [BitVec.getLsbD_append, BitVec.getLsbD_extractLsb]
  grind

theorem getLsbD_imm32 (w : Word) (i : Nat) : (extractU w).imm32.getLsbD i = (decide (12 ≤ i) && w.getLsbD i) := by
  unfold extractU UFields.imm32
  change @BitVec.getLsbD (20 + 12) (w.extractLsb 31 12 ++ 0#12) i = _
  simp only [BitVec.getLsbD_append, BitVec.getLsbD_extractLsb, BitVec.getLsbD_zero]
  grind

theorem getLsbD_u13 (w : Word) (i : Nat) : (extractB w).u13.getLsbD i =
    if i < 1 then false else if i < 5 then w.getLsbD (i + 7) else if i < 11 then w.getLsbD (i + 20)
    else if i < 12 then w.getLsbD 7 else (decide (i = 12) && w.getLsbD 31) := by
  unfold extractB BFields.u13
  change @BitVec.getLsbD (1 + 1 + 6 + 4 + 1) (w.extractLsb 31 31 ++ w.extractLsb 7 7 ++ w.extractLsb 30 25
    ++ w.extractLsb 11 8 ++ 0#1) i = _
  simp only [BitVec.getLsbD_append, BitVec.getLsbD_extractLsb, BitVec.getLsbD_zero]
  grind

theorem getLsbD_u21 (w : Word) (i : Nat) : (extractJ w).u21.getLsbD i =
    if i < 1 then false else if i < 11 then w.getLsbD (i + 20) else if i < 12 then w.getLsbD 20
    else if i < 20 then w.getLsbD i else (decide (i = 20) && w.getLsbD 31) := by
  unfold extractJ JFields.u21 fld20
  change @BitVec.getLsbD (1 + 8 + 1 + 10 + 1) ((w.extractLsb 31 12).extractLsb 19 19 ++ (w.extractLsb 31 12).extractLsb 7 0
    ++ (w.extractLsb 31 12).extractLsb 8 8 ++ (w.extractLsb 31 12).extractLsb 18 9 ++ 0#1) i = _
  simp only [BitVec.getLsbD_append, BitVec.getLsbD_extractLsb, BitVec.getLsbD_zero]
  grind

theorem getLsbD_wordOfBytes (b0 b1 b2 b3 : Byte) (i : Nat) : (wordOfBytes b0 b1 b2 b3).getLsbD i =
    if i < 8 then b0.getLsbD i else if i < 16 then b1.getLsbD (i - 8) else if i < 24 then b2.getLsbD (i - 16)
    else b3.getLsbD (i - 24) := by
  unfold wordOfBytes
  change @BitVec.getLsbD (8 + 8 + 8 + 8) (b3 ++ b2 ++ b1 ++ b0) i = _
  simp only [BitVec.getLsbD_append]
  grind

theorem getLsbD_opcode (w : Word) (i : Nat) : (opcode w).getLsbD i = (decide (i < 7) && w.getLsbD i) := by
  unfold opcode; rw [BitVec.getLsbD_extractLsb]; grind
theorem getLsbD_rdField (w : Word) (i : Nat) : (rdField w).getLsbD i = (decide (i < 5) && w.getLsbD (i + 7)) := by
  unfold rdField; rw [BitVec.getLsbD_extractLsb]; grind
theorem getLsbD_funct3 (w : Word) (i : Nat) : (funct3 w).getLsbD i = (decide (i < 3) && w.getLsbD (i + 12)) := by
  unfold funct3; rw [BitVec.getLsbD_extractLsb]; grind
theorem getLsbD_rs1Field (w : Word) (i : Nat) : (rs1Field w).getLsbD i = (decide (i < 5) && w.getLsbD (i + 15)) := by
  unfold rs1Field; rw [BitVec.getLsbD_extractLsb]; grind
theorem getLsbD_rs2Field (w : Word) (i : Nat) : (rs2Field w).getLsbD i = (decide (i < 5) && w.getLsbD (i + 20)) := by
  unfold rs2Field; rw [BitVec.getLsbD_extractLsb]; grind
theorem getLsbD_funct7 (w : Word) (i : Nat) : (funct7 w).getLsbD i = (decide (i < 7) && w.getLsbD (i + 25)) := by
  unfold funct7; rw [BitVec.getLsbD_extractLsb]; grind
theorem getLsbD_imm12Field (w : Word) (i : Nat) :
    (imm12Field w).getLsbD i = (decide (i < 12) && w.getLsbD (i + 20)) := by
  unfold imm12Field; rw [BitVec.getLsbD_extractLsb]; grind

end Sys2Proof
end

