-- ==== Sys2Proof/Laws/Decode.lean ====
section
/-! SUPPORT. The fields of an encoded word, a word rebuilt from its fields, and what each key of the opcode
table (R68) says of the fields. -/

namespace Sys2Proof

/-! ## The fields of an encoded word -/

theorem opcode_encodeR (f7 f3 op rd rs1 rs2) : opcode (encodeR f7 f3 op rd rs1 rs2) = op := by
  apply BitVec.eq_of_getLsbD_eq; intro i hi; rw [getLsbD_opcode, getLsbD_encodeR]; grind
theorem rdField_encodeR (f7 f3 op rd rs1 rs2) : rdField (encodeR f7 f3 op rd rs1 rs2) = rd := by
  apply BitVec.eq_of_getLsbD_eq; intro i hi; rw [getLsbD_rdField, getLsbD_encodeR]; grind
theorem funct3_encodeR (f7 f3 op rd rs1 rs2) : funct3 (encodeR f7 f3 op rd rs1 rs2) = f3 := by
  apply BitVec.eq_of_getLsbD_eq; intro i hi; rw [getLsbD_funct3, getLsbD_encodeR]; grind
theorem rs1Field_encodeR (f7 f3 op rd rs1 rs2) : rs1Field (encodeR f7 f3 op rd rs1 rs2) = rs1 := by
  apply BitVec.eq_of_getLsbD_eq; intro i hi; rw [getLsbD_rs1Field, getLsbD_encodeR]; grind
theorem rs2Field_encodeR (f7 f3 op rd rs1 rs2) : rs2Field (encodeR f7 f3 op rd rs1 rs2) = rs2 := by
  apply BitVec.eq_of_getLsbD_eq; intro i hi; rw [getLsbD_rs2Field, getLsbD_encodeR]; grind
theorem funct7_encodeR (f7 f3 op rd rs1 rs2) : funct7 (encodeR f7 f3 op rd rs1 rs2) = f7 := by
  apply BitVec.eq_of_getLsbD_eq; intro i hi; rw [getLsbD_funct7, getLsbD_encodeR]; grind

theorem opcode_encodeI (f3 op rd rs1 imm) : opcode (encodeI f3 op rd rs1 imm) = op := by
  apply BitVec.eq_of_getLsbD_eq; intro i hi; rw [getLsbD_opcode, getLsbD_encodeI]; grind
theorem rdField_encodeI (f3 op rd rs1 imm) : rdField (encodeI f3 op rd rs1 imm) = rd := by
  apply BitVec.eq_of_getLsbD_eq; intro i hi; rw [getLsbD_rdField, getLsbD_encodeI]; grind
theorem funct3_encodeI (f3 op rd rs1 imm) : funct3 (encodeI f3 op rd rs1 imm) = f3 := by
  apply BitVec.eq_of_getLsbD_eq; intro i hi; rw [getLsbD_funct3, getLsbD_encodeI]; grind
theorem rs1Field_encodeI (f3 op rd rs1 imm) : rs1Field (encodeI f3 op rd rs1 imm) = rs1 := by
  apply BitVec.eq_of_getLsbD_eq; intro i hi; rw [getLsbD_rs1Field, getLsbD_encodeI]; grind
theorem imm12Field_encodeI (f3 op rd rs1 imm) : imm12Field (encodeI f3 op rd rs1 imm) = imm := by
  apply BitVec.eq_of_getLsbD_eq; intro i hi; rw [getLsbD_imm12Field, getLsbD_encodeI]; grind

theorem opcode_encodeS (f3 op rs1 rs2 imm) : opcode (encodeS f3 op rs1 rs2 imm) = op := by
  apply BitVec.eq_of_getLsbD_eq; intro i hi; rw [getLsbD_opcode, getLsbD_encodeS]; grind
theorem funct3_encodeS (f3 op rs1 rs2 imm) : funct3 (encodeS f3 op rs1 rs2 imm) = f3 := by
  apply BitVec.eq_of_getLsbD_eq; intro i hi; rw [getLsbD_funct3, getLsbD_encodeS]; grind
theorem rs1Field_encodeS (f3 op rs1 rs2 imm) : rs1Field (encodeS f3 op rs1 rs2 imm) = rs1 := by
  apply BitVec.eq_of_getLsbD_eq; intro i hi; rw [getLsbD_rs1Field, getLsbD_encodeS]; grind
theorem rs2Field_encodeS (f3 op rs1 rs2 imm) : rs2Field (encodeS f3 op rs1 rs2 imm) = rs2 := by
  apply BitVec.eq_of_getLsbD_eq; intro i hi; rw [getLsbD_rs2Field, getLsbD_encodeS]; grind

theorem opcode_encodeB (f3 op rs1 rs2 imm) : opcode (encodeB f3 op rs1 rs2 imm) = op := by
  apply BitVec.eq_of_getLsbD_eq; intro i hi; rw [getLsbD_opcode, getLsbD_encodeB]; grind
theorem funct3_encodeB (f3 op rs1 rs2 imm) : funct3 (encodeB f3 op rs1 rs2 imm) = f3 := by
  apply BitVec.eq_of_getLsbD_eq; intro i hi; rw [getLsbD_funct3, getLsbD_encodeB]; grind
theorem rs1Field_encodeB (f3 op rs1 rs2 imm) : rs1Field (encodeB f3 op rs1 rs2 imm) = rs1 := by
  apply BitVec.eq_of_getLsbD_eq; intro i hi; rw [getLsbD_rs1Field, getLsbD_encodeB]; grind
theorem rs2Field_encodeB (f3 op rs1 rs2 imm) : rs2Field (encodeB f3 op rs1 rs2 imm) = rs2 := by
  apply BitVec.eq_of_getLsbD_eq; intro i hi; rw [getLsbD_rs2Field, getLsbD_encodeB]; grind

theorem opcode_encodeU (op rd imm) : opcode (encodeU op rd imm) = op := by
  apply BitVec.eq_of_getLsbD_eq; intro i hi; rw [getLsbD_opcode, getLsbD_encodeU]; grind
theorem rdField_encodeU (op rd imm) : rdField (encodeU op rd imm) = rd := by
  apply BitVec.eq_of_getLsbD_eq; intro i hi; rw [getLsbD_rdField, getLsbD_encodeU]; grind

theorem opcode_encodeJ (op rd imm) : opcode (encodeJ op rd imm) = op := by
  apply BitVec.eq_of_getLsbD_eq; intro i hi; rw [getLsbD_opcode, getLsbD_encodeJ]; grind
theorem rdField_encodeJ (op rd imm) : rdField (encodeJ op rd imm) = rd := by
  apply BitVec.eq_of_getLsbD_eq; intro i hi; rw [getLsbD_rdField, getLsbD_encodeJ]; grind

theorem imm_encodeS (f3 op rs1 rs2 imm) : (extractS (encodeS f3 op rs1 rs2 imm)).imm = imm := by
  apply BitVec.eq_of_getLsbD_eq; intro i hi; simp only [getLsbD_immS, getLsbD_encodeS]; grind

/-- A B immediate whose bit 0 is zero comes back whole. -/
theorem u13_encodeB (f3 op rs1 rs2 imm) (h : evenB imm = true) :
    (extractB (encodeB f3 op rs1 rs2 imm)).u13 = imm := by
  have h0 : imm.getLsbD 0 = false := by
    have := congrArg (fun x => x.getLsbD 0) (eq_of_beq h)
    simpa [BitVec.getLsbD_extractLsb] using this
  apply BitVec.eq_of_getLsbD_eq; intro i hi; simp only [getLsbD_u13, getLsbD_encodeB]; grind

/-- A J immediate whose bit 0 is zero comes back whole. -/
theorem u21_encodeJ (op rd imm) (h : evenJ imm = true) : (extractJ (encodeJ op rd imm)).u21 = imm := by
  have h0 : imm.getLsbD 0 = false := by
    have := congrArg (fun x => x.getLsbD 0) (eq_of_beq h)
    simpa [BitVec.getLsbD_extractLsb] using this
  apply BitVec.eq_of_getLsbD_eq; intro i hi; simp only [getLsbD_u21, getLsbD_encodeJ]; grind

/-- A U immediate whose low 12 bits are zero comes back whole. -/
theorem imm32_encodeU (op rd imm) (h : placedU imm = true) : (extractU (encodeU op rd imm)).imm32 = imm := by
  have h0 : ∀ i, i < 12 → imm.getLsbD i = false := fun i hi => by
    have := congrArg (fun x => x.getLsbD i) (eq_of_beq h)
    simpa [BitVec.getLsbD_extractLsb, Nat.lt_succ_iff.mp hi] using this
  apply BitVec.eq_of_getLsbD_eq; intro i hi; simp only [getLsbD_imm32, getLsbD_encodeU]; grind

/-! ## What the assemblers force to zero -/

theorem evenB_u13 (w : Word) : evenB (extractB w).u13 = true := by
  unfold evenB; rw [beq_iff_eq]
  apply BitVec.eq_of_getLsbD_eq; intro i hi
  simp only [BitVec.getLsbD_extractLsb, getLsbD_u13, BitVec.getLsbD_zero]; grind

theorem evenJ_u21 (w : Word) : evenJ (extractJ w).u21 = true := by
  unfold evenJ; rw [beq_iff_eq]
  apply BitVec.eq_of_getLsbD_eq; intro i hi
  simp only [BitVec.getLsbD_extractLsb, getLsbD_u21, BitVec.getLsbD_zero]; grind

theorem placedU_imm32 (w : Word) : placedU (extractU w).imm32 = true := by
  unfold placedU; rw [beq_iff_eq]
  apply BitVec.eq_of_getLsbD_eq; intro i hi
  simp only [BitVec.getLsbD_extractLsb, getLsbD_imm32, BitVec.getLsbD_zero]; grind

/-! ## A word is its fields -/

theorem encodeR_fields (w : Word) :
    encodeR (funct7 w) (funct3 w) (opcode w) (rdField w) (rs1Field w) (rs2Field w) = w := by
  apply BitVec.eq_of_getLsbD_eq; intro i hi
  simp only [getLsbD_encodeR, getLsbD_funct7, getLsbD_funct3, getLsbD_opcode, getLsbD_rdField, getLsbD_rs1Field,
    getLsbD_rs2Field]
  grind

theorem encodeI_fields (w : Word) :
    encodeI (funct3 w) (opcode w) (rdField w) (rs1Field w) (imm12Field w) = w := by
  apply BitVec.eq_of_getLsbD_eq; intro i hi
  simp only [getLsbD_encodeI, getLsbD_funct3, getLsbD_opcode, getLsbD_rdField, getLsbD_rs1Field, getLsbD_imm12Field]
  grind

theorem encodeS_fields (w : Word) :
    encodeS (funct3 w) (opcode w) (rs1Field w) (rs2Field w) (extractS w).imm = w := by
  apply BitVec.eq_of_getLsbD_eq; intro i hi
  simp only [getLsbD_encodeS, getLsbD_funct3, getLsbD_opcode, getLsbD_rs1Field, getLsbD_rs2Field, getLsbD_immS]
  grind

theorem encodeB_fields (w : Word) :
    encodeB (funct3 w) (opcode w) (rs1Field w) (rs2Field w) (extractB w).u13 = w := by
  apply BitVec.eq_of_getLsbD_eq; intro i hi
  simp only [getLsbD_encodeB, getLsbD_funct3, getLsbD_opcode, getLsbD_rs1Field, getLsbD_rs2Field, getLsbD_u13]
  grind

theorem encodeU_fields (w : Word) : encodeU (opcode w) (rdField w) (extractU w).imm32 = w := by
  apply BitVec.eq_of_getLsbD_eq; intro i hi
  simp only [getLsbD_encodeU, getLsbD_opcode, getLsbD_rdField, getLsbD_imm32]
  grind

theorem encodeJ_fields (w : Word) : encodeJ (opcode w) (rdField w) (extractJ w).u21 = w := by
  apply BitVec.eq_of_getLsbD_eq; intro i hi
  simp only [getLsbD_encodeJ, getLsbD_opcode, getLsbD_rdField, getLsbD_u21]
  grind

/-! ## The sub-fields of `imm12` (R52, R59, R60) -/

theorem shtype6_shamt6 (x : BitVec 12) (t : BitVec 6) (h : shtype6 x = t) : (t ++ shamt6 x : BitVec 12) = x := by
  subst h; unfold shtype6 shamt6
  apply BitVec.eq_of_getLsbD_eq; intro i hi
  rw [BitVec.getLsbD_append]; simp only [BitVec.getLsbD_extractLsb]; grind

theorem shtype7_shamt5 (x : BitVec 12) (t : BitVec 7) (h : shtype7 x = t) : (t ++ shamt5 x : BitVec 12) = x := by
  subst h; unfold shtype7 shamt5
  apply BitVec.eq_of_getLsbD_eq; intro i hi
  rw [BitVec.getLsbD_append]; simp only [BitVec.getLsbD_extractLsb]; grind

theorem fm_pred_succ (x : BitVec 12) : (fmField x ++ predField x ++ succField x : BitVec 12) = x := by
  unfold fmField predField succField
  apply BitVec.eq_of_getLsbD_eq; intro i hi
  simp only [BitVec.getLsbD_append, BitVec.getLsbD_extractLsb]; grind

theorem shtype6_append (t a : BitVec 6) : shtype6 (t ++ a) = t := by
  unfold shtype6; apply BitVec.eq_of_getLsbD_eq; intro i hi
  rw [BitVec.getLsbD_extractLsb, BitVec.getLsbD_append]; grind
theorem shamt6_append (t a : BitVec 6) : shamt6 (t ++ a) = a := by
  unfold shamt6; apply BitVec.eq_of_getLsbD_eq; intro i hi
  rw [BitVec.getLsbD_extractLsb, BitVec.getLsbD_append]; grind
theorem shtype7_append (t : BitVec 7) (a : BitVec 5) : shtype7 (t ++ a) = t := by
  unfold shtype7; apply BitVec.eq_of_getLsbD_eq; intro i hi
  rw [BitVec.getLsbD_extractLsb, BitVec.getLsbD_append]; grind
theorem shamt5_append (t : BitVec 7) (a : BitVec 5) : shamt5 (t ++ a) = a := by
  unfold shamt5; apply BitVec.eq_of_getLsbD_eq; intro i hi
  rw [BitVec.getLsbD_extractLsb, BitVec.getLsbD_append]; grind
theorem succField_append (a b c : BitVec 4) : succField (a ++ b ++ c) = c := by
  unfold succField; apply BitVec.eq_of_getLsbD_eq; intro i hi
  simp only [BitVec.getLsbD_extractLsb, BitVec.getLsbD_append]; grind
theorem predField_append (a b c : BitVec 4) : predField (a ++ b ++ c) = b := by
  unfold predField; apply BitVec.eq_of_getLsbD_eq; intro i hi
  simp only [BitVec.getLsbD_extractLsb, BitVec.getLsbD_append]; grind
theorem fmField_append (a b c : BitVec 4) : fmField (a ++ b ++ c) = a := by
  unfold fmField; apply BitVec.eq_of_getLsbD_eq; intro i hi
  simp only [BitVec.getLsbD_extractLsb, BitVec.getLsbD_append]; grind

/-! ## The classifier and the opcode groups (R77, R79, R80) -/

theorem opcode_of_groupOf (op : BitVec 7) (g : Group) (h : groupOf op = some g) : op = g.opcode := by
  cases g <;> revert op <;> decide

theorem groupOf_opcode (g : Group) : groupOf g.opcode = some g := by cases g <;> rfl

theorem classify_eq_groupOf : ∀ op : BitVec 7, classify op = (groupOf op).map Group.format := by decide

/-- The dispatch of a word whose opcode group is known. -/
def resolveGroup (w : Word) : Group → Option Instr
  | .load => resolveLoad (extractI w)
  | .fence => resolveFence (extractI w)
  | .opImm => resolveOpImm (extractI w)
  | .auipc => some (.auipc (extractU w).rd (extractU w).imm32)
  | .opImm32 => resolveOpImm32 (extractI w)
  | .store => resolveS w
  | .op => resolveOp (extractR w)
  | .lui => some (.lui (extractU w).rd (extractU w).imm32)
  | .op32 => resolveOp32 (extractR w)
  | .branch => resolveB w
  | .jalr => resolveJalr (extractI w)
  | .jal => some (.jal (extractJ w).rd (extractJ w).u21)
  | .system => resolveSystem (extractI w)

/-- A word decodes by its opcode group alone (R68). -/
theorem decodeWord_eq_resolveGroup (w : Word) : decodeWord w = (groupOf (opcode w)).bind (resolveGroup w) := by
  unfold decodeWord
  rw [classify_eq_groupOf]
  cases h : groupOf (opcode w) with
  | none => rfl
  | some g =>
    cases g <;> simp [Group.format, resolve, resolveGroup, resolveI, resolveR, resolveU, resolveJ, extractI, extractR,
      extractU, extractJ, h]

/-- A resolver answers only for the opcodes of its own format. -/
theorem classify_of_resolve (w : Word) (f : Format) (h : resolve f w ≠ none) : classify (opcode w) = some f := by
  rw [classify_eq_groupOf]
  cases hg : groupOf (opcode w) with
  | none => cases f <;> simp [resolve, resolveI, resolveR, resolveS, resolveB, resolveU, resolveJ, extractI, extractR,
      extractS, extractB, extractU, extractJ, hg] at h
  | some g => cases f <;> cases g <;> simp [Group.format, resolve, resolveI, resolveR, resolveS, resolveB, resolveU,
      resolveJ, extractI, extractR, extractS, extractB, extractU, extractJ, hg] at h ⊢

/-! ## The keys of the opcode table (R68) -/

/-- A key that examines the opcode. -/
theorem key_opcode (w : Word) (op : BitVec 7) :
    w &&& 0x0000007f#32 = encodeR 0#7 0#3 op 0#5 0#5 0#5 ↔ opcode w = op := by
  rw [show (0x0000007f#32 : Word) = encodeR 0#7 0#3 0x7f#7 0#5 0#5 0#5 from rfl]
  constructor
  · intro h
    have := congrArg opcode h
    rw [opcode_encodeR] at this
    rw [← this]
    apply BitVec.eq_of_getLsbD_eq; intro i hi
    simp only [getLsbD_opcode, BitVec.getLsbD_and, getLsbD_encodeR]
    interval_cases i <;> simp
  · rintro rfl
    apply BitVec.eq_of_getLsbD_eq; intro i hi
    simp only [getLsbD_opcode, BitVec.getLsbD_and, getLsbD_encodeR]
    interval_cases i <;> simp

/-- A key that examines the opcode and funct3. -/
theorem key_funct3 (w : Word) (f3 : BitVec 3) (op : BitVec 7) :
    w &&& 0x0000707f#32 = encodeR 0#7 f3 op 0#5 0#5 0#5 ↔ opcode w = op ∧ funct3 w = f3 := by
  rw [show (0x0000707f#32 : Word) = encodeR 0#7 7#3 0x7f#7 0#5 0#5 0#5 from rfl]
  constructor
  · intro h
    have h1 := congrArg opcode h
    have h2 := congrArg funct3 h
    rw [opcode_encodeR] at h1
    rw [funct3_encodeR] at h2
    rw [← h1, ← h2]
    constructor
    all_goals
      apply BitVec.eq_of_getLsbD_eq; intro i hi
      simp only [getLsbD_opcode, getLsbD_funct3, BitVec.getLsbD_and, getLsbD_encodeR]
      interval_cases i <;> simp
  · rintro ⟨rfl, rfl⟩
    apply BitVec.eq_of_getLsbD_eq; intro i hi
    simp only [getLsbD_opcode, getLsbD_funct3, BitVec.getLsbD_and, getLsbD_encodeR]
    interval_cases i <;> simp

/-- A key that examines the opcode, funct3 and `w[31:25]`. -/
theorem key_funct7 (w : Word) (f7 : BitVec 7) (f3 : BitVec 3) (op : BitVec 7) :
    w &&& 0xfe00707f#32 = encodeR f7 f3 op 0#5 0#5 0#5 ↔ opcode w = op ∧ funct3 w = f3 ∧ funct7 w = f7 := by
  rw [show (0xfe00707f#32 : Word) = encodeR 0x7f#7 7#3 0x7f#7 0#5 0#5 0#5 from rfl]
  constructor
  · intro h
    have h1 := congrArg opcode h
    have h2 := congrArg funct3 h
    have h3 := congrArg funct7 h
    rw [opcode_encodeR] at h1
    rw [funct3_encodeR] at h2
    rw [funct7_encodeR] at h3
    rw [← h1, ← h2, ← h3]
    refine ⟨?_, ?_, ?_⟩
    all_goals
      apply BitVec.eq_of_getLsbD_eq; intro i hi
      simp only [getLsbD_opcode, getLsbD_funct3, getLsbD_funct7, BitVec.getLsbD_and, getLsbD_encodeR]
      interval_cases i <;> simp
  · rintro ⟨rfl, rfl, rfl⟩
    apply BitVec.eq_of_getLsbD_eq; intro i hi
    simp only [getLsbD_opcode, getLsbD_funct3, getLsbD_funct7, BitVec.getLsbD_and, getLsbD_encodeR]
    interval_cases i <;> simp

/-- A key that examines the opcode, funct3 and the 6-bit shift-type `w[31:26]` (R59). -/
theorem key_shtype6 (w : Word) (t : BitVec 6) (f3 : BitVec 3) (op : BitVec 7) :
    w &&& 0xfc00707f#32 = encodeI f3 op 0#5 0#5 (t ++ 0#6) ↔
      opcode w = op ∧ funct3 w = f3 ∧ shtype6 (imm12Field w) = t := by
  have ht : ∀ i, (shtype6 (imm12Field w)).getLsbD i = (decide (i < 6) && w.getLsbD (i + 26)) := fun i => by
    unfold shtype6; rw [BitVec.getLsbD_extractLsb, getLsbD_imm12Field]; grind
  have ha : ∀ (t : BitVec 6) i, (t ++ 0#6 : BitVec 12).getLsbD i = (decide (6 ≤ i) && t.getLsbD (i - 6)) :=
    fun t i => by
      rw [BitVec.getLsbD_append]; grind
  rw [show (0xfc00707f#32 : Word) = encodeI 7#3 0x7f#7 0#5 0#5 (0x3f#6 ++ 0#6) from rfl]
  constructor
  · intro h
    have hb := fun i => congrArg (fun x => x.getLsbD i) h
    simp only [BitVec.getLsbD_and, getLsbD_encodeI, ha] at hb
    refine ⟨?_, ?_, ?_⟩
    · apply BitVec.eq_of_getLsbD_eq; intro i hi
      have := hb i
      rw [getLsbD_opcode]
      interval_cases i <;> simpa using this
    · apply BitVec.eq_of_getLsbD_eq; intro i hi
      have := hb (i + 12)
      rw [getLsbD_funct3]
      interval_cases i <;> simpa using this
    · apply BitVec.eq_of_getLsbD_eq; intro i hi
      have := hb (i + 26)
      rw [ht]
      interval_cases i <;> simpa using this
  · rintro ⟨rfl, rfl, rfl⟩
    apply BitVec.eq_of_getLsbD_eq; intro i hi
    simp only [getLsbD_opcode, getLsbD_funct3, ht, ha, BitVec.getLsbD_and, getLsbD_encodeI]
    interval_cases i <;> simp

end Sys2Proof
end

