-- ==== Sys2Proof/Laws/State.lean ====
section
/-! SUPPORT. One lemma per field per update of State, each true by rfl. -/

namespace Sys2Proof.Machine

@[simp] theorem State.drive_instrI (s : State) (r : DecodeResult) : (s.drive r).instrI = s.instrI := rfl
@[simp] theorem State.drive_result (s : State) (r : DecodeResult) : (s.drive r).result = r := rfl
@[simp] theorem State.drive_stream (s : State) (r : DecodeResult) : (s.drive r).stream = s.stream := rfl
@[simp] theorem State.drive_delivered (s : State) (r : DecodeResult) : (s.drive r).delivered = s.delivered := rfl

@[simp] theorem State.collect_instrI (s : State) : s.collect.instrI = s.instrI := rfl
@[simp] theorem State.collect_result (s : State) : s.collect.result = s.result := rfl
@[simp] theorem State.collect_stream (s : State) : s.collect.stream = s.stream := rfl
@[simp] theorem State.collect_delivered (s : State) : s.collect.delivered = s.delivered ++ [s.result] := rfl

@[simp] theorem State.withNextWord_instrI (s : State) (w : Word) : (s.withNextWord w).instrI = s.instrI := rfl
@[simp] theorem State.withNextWord_result (s : State) (w : Word) : (s.withNextWord w).result = s.result := rfl
@[simp] theorem State.withNextWord_stream (s : State) (w : Word) :
    (s.withNextWord w).stream = w :: s.stream.tail := rfl
@[simp] theorem State.withNextWord_delivered (s : State) (w : Word) :
    (s.withNextWord w).delivered = s.delivered := rfl

@[simp] theorem State.withStream_instrI (s : State) (bs : List Byte) : (s.withStream bs).instrI = s.instrI := rfl
@[simp] theorem State.withStream_result (s : State) (bs : List Byte) : (s.withStream bs).result = s.result := rfl
@[simp] theorem State.withStream_stream (s : State) (bs : List Byte) :
    (s.withStream bs).stream = wordsOfStream bs := rfl
@[simp] theorem State.withStream_delivered (s : State) (bs : List Byte) :
    (s.withStream bs).delivered = s.delivered := rfl

@[simp] theorem State.ports_drive (s : State) (r : DecodeResult) : (s.drive r).ports = portsOf r := rfl

end Sys2Proof.Machine
end

