-- ==== Sys2Proof/Laws/Ops.lean ====
section
/-! SUPPORT. One lemma per shared operation: everything it can do. -/

namespace Sys2Proof.Machine

/-- Reporting answers a next state whose outputs are the given mnemonic and operands. -/
theorem report_eq (m : Mnemonic) (ops : List Operand) (s : State) :
    report m ops s = .next (s.drive (.decoded m ops)) := rfl

/-- Reporting Undefined answers a next state too. -/
theorem reportUndefined_eq (s : State) : reportUndefined s = .next (s.drive .undefined) := rfl

/-- With no word to present the input is held. -/
theorem State.present_nil (s : State) (h : s.stream = []) : s.present = s := by simp [State.present, h]

/-- With a word to present, it becomes the input and leaves the stream. -/
theorem State.present_cons (s : State) (w : Word) (ws : List Word) (h : s.stream = w :: ws) :
    s.present = { s with instrI := w, stream := ws } := by simp [State.present, h]

/-- Every meaning reports its instruction's result and does nothing else. -/
theorem exec_eq (i : Instr) (s : State) : exec i s = .next (s.drive i.result) := by cases i <;> rfl

/-- An evaluation makes the outputs `decode(instr_i)` and does nothing else. -/
theorem evaluate_eq (s : State) : evaluate s = .next (s.drive (decode s.instrI)) := by
  unfold evaluate decode
  cases decodeWord s.instrI with
  | none => rfl
  | some i => exact exec_eq i s

/-- A step with a word to present. -/
theorem step_of_cons (s : State) (w : Word) (ws : List Word) (h : s.stream = w :: ws) :
    step s = .next { instrI := w, result := decode w, stream := ws, delivered := s.delivered ++ [decode w] } := by
  simp only [step, decodeNext, h, State.present_cons s w ws h, evaluate_eq, collectNext]
  rfl

/-- A step with none: the outputs follow the held input. -/
theorem step_of_nil (s : State) (h : s.stream = []) : step s = .next (s.drive (decode s.instrI)) := by
  simp only [step, decodeNext, h, evaluate_eq]

end Sys2Proof.Machine
end

