-- ==== Sys2Proof/Laws/PerInstr.lean ====
section
/-! SUPPORT. Statements about every instruction, one lemma per constructor. -/

namespace Sys2Proof.Laws.EncodesItsRow

/-- The encoding of an instruction hits the row that the opcode table has for its mnemonic (R67, R68). -/
def Statement (i : Instr) : Prop := ∃ r, rowOf i.mnemonic = some r ∧ r.hits (encode i) = true

/-- A row that examines the opcode. -/
theorem hits_opcode (m : Mnemonic) (w : Word) (op : BitVec 7) (h : opcode w = op) :
    Row.hits ⟨m, encodeR 0#7 0#3 op 0#5 0#5 0#5, 0x0000007f#32⟩ w = true :=
  beq_iff_eq.mpr ((key_opcode w op).mpr h)

/-- A row that examines the opcode and funct3. -/
theorem hits_funct3 (m : Mnemonic) (w : Word) (f3 : BitVec 3) (op : BitVec 7) (h : opcode w = op ∧ funct3 w = f3) :
    Row.hits ⟨m, encodeR 0#7 f3 op 0#5 0#5 0#5, 0x0000707f#32⟩ w = true :=
  beq_iff_eq.mpr ((key_funct3 w f3 op).mpr h)

/-- A row that examines `w[31:25]` as well. -/
theorem hits_funct7 (m : Mnemonic) (w : Word) (f7 : BitVec 7) (f3 : BitVec 3) (op : BitVec 7)
    (h : opcode w = op ∧ funct3 w = f3 ∧ funct7 w = f7) :
    Row.hits ⟨m, encodeR f7 f3 op 0#5 0#5 0#5, 0xfe00707f#32⟩ w = true :=
  beq_iff_eq.mpr ((key_funct7 w f7 f3 op).mpr h)

/-- A row that examines the 6-bit shift-type. -/
theorem hits_shtype6 (m : Mnemonic) (w : Word) (t : BitVec 6) (f3 : BitVec 3) (op : BitVec 7)
    (h : opcode w = op ∧ funct3 w = f3 ∧ shtype6 (imm12Field w) = t) :
    Row.hits ⟨m, encodeI f3 op 0#5 0#5 (t ++ 0#6), 0xfc00707f#32⟩ w = true :=
  beq_iff_eq.mpr ((key_shtype6 w t f3 op).mpr h)

/-- `w[31:25]` of an I word is the 7-bit shift-type (R59). -/
theorem funct7_encodeI (f3 : BitVec 3) (op : BitVec 7) (rd rs1 : RegIdx) (imm : BitVec 12) :
    funct7 (encodeI f3 op rd rs1 imm) = shtype7 imm := by
  unfold shtype7
  apply BitVec.eq_of_getLsbD_eq; intro i hi
  rw [getLsbD_funct7, getLsbD_encodeI, BitVec.getLsbD_extractLsb]; grind

theorem lb (rd rs1 : RegIdx) (imm : BitVec 12) : Statement (.lb rd rs1 imm) := ⟨_, rfl,
  hits_funct3 .LB _ 0b000#3 0b0000011#7 ⟨opcode_encodeI .., funct3_encodeI ..⟩⟩
theorem lh (rd rs1 : RegIdx) (imm : BitVec 12) : Statement (.lh rd rs1 imm) := ⟨_, rfl,
  hits_funct3 .LH _ 0b001#3 0b0000011#7 ⟨opcode_encodeI .., funct3_encodeI ..⟩⟩
theorem lw (rd rs1 : RegIdx) (imm : BitVec 12) : Statement (.lw rd rs1 imm) := ⟨_, rfl,
  hits_funct3 .LW _ 0b010#3 0b0000011#7 ⟨opcode_encodeI .., funct3_encodeI ..⟩⟩
theorem lbu (rd rs1 : RegIdx) (imm : BitVec 12) : Statement (.lbu rd rs1 imm) := ⟨_, rfl,
  hits_funct3 .LBU _ 0b100#3 0b0000011#7 ⟨opcode_encodeI .., funct3_encodeI ..⟩⟩
theorem lhu (rd rs1 : RegIdx) (imm : BitVec 12) : Statement (.lhu rd rs1 imm) := ⟨_, rfl,
  hits_funct3 .LHU _ 0b101#3 0b0000011#7 ⟨opcode_encodeI .., funct3_encodeI ..⟩⟩
theorem lwu (rd rs1 : RegIdx) (imm : BitVec 12) : Statement (.lwu rd rs1 imm) := ⟨_, rfl,
  hits_funct3 .LWU _ 0b110#3 0b0000011#7 ⟨opcode_encodeI .., funct3_encodeI ..⟩⟩
theorem ld (rd rs1 : RegIdx) (imm : BitVec 12) : Statement (.ld rd rs1 imm) := ⟨_, rfl,
  hits_funct3 .LD _ 0b011#3 0b0000011#7 ⟨opcode_encodeI .., funct3_encodeI ..⟩⟩
theorem fence (succ pred fm : BitVec 4) (rs1 rd : RegIdx) : Statement (.fence succ pred fm rs1 rd) := ⟨_, rfl,
  hits_funct3 .FENCE _ 0b000#3 0b0001111#7 ⟨opcode_encodeI .., funct3_encodeI ..⟩⟩
theorem addi (rd rs1 : RegIdx) (imm : BitVec 12) : Statement (.addi rd rs1 imm) := ⟨_, rfl,
  hits_funct3 .ADDI _ 0b000#3 0b0010011#7 ⟨opcode_encodeI .., funct3_encodeI ..⟩⟩
theorem slti (rd rs1 : RegIdx) (imm : BitVec 12) : Statement (.slti rd rs1 imm) := ⟨_, rfl,
  hits_funct3 .SLTI _ 0b010#3 0b0010011#7 ⟨opcode_encodeI .., funct3_encodeI ..⟩⟩
theorem sltiu (rd rs1 : RegIdx) (imm : BitVec 12) : Statement (.sltiu rd rs1 imm) := ⟨_, rfl,
  hits_funct3 .SLTIU _ 0b011#3 0b0010011#7 ⟨opcode_encodeI .., funct3_encodeI ..⟩⟩
theorem xori (rd rs1 : RegIdx) (imm : BitVec 12) : Statement (.xori rd rs1 imm) := ⟨_, rfl,
  hits_funct3 .XORI _ 0b100#3 0b0010011#7 ⟨opcode_encodeI .., funct3_encodeI ..⟩⟩
theorem ori (rd rs1 : RegIdx) (imm : BitVec 12) : Statement (.ori rd rs1 imm) := ⟨_, rfl,
  hits_funct3 .ORI _ 0b110#3 0b0010011#7 ⟨opcode_encodeI .., funct3_encodeI ..⟩⟩
theorem andi (rd rs1 : RegIdx) (imm : BitVec 12) : Statement (.andi rd rs1 imm) := ⟨_, rfl,
  hits_funct3 .ANDI _ 0b111#3 0b0010011#7 ⟨opcode_encodeI .., funct3_encodeI ..⟩⟩
theorem slli (rd rs1 : RegIdx) (shamt : BitVec 6) : Statement (.slli rd rs1 shamt) := ⟨_, rfl,
  hits_shtype6 .SLLI _ 0b000000#6 0b001#3 0b0010011#7
    ⟨opcode_encodeI .., funct3_encodeI .., (congrArg shtype6 (imm12Field_encodeI ..)).trans (shtype6_append ..)⟩⟩
theorem srli (rd rs1 : RegIdx) (shamt : BitVec 6) : Statement (.srli rd rs1 shamt) := ⟨_, rfl,
  hits_shtype6 .SRLI _ 0b000000#6 0b101#3 0b0010011#7
    ⟨opcode_encodeI .., funct3_encodeI .., (congrArg shtype6 (imm12Field_encodeI ..)).trans (shtype6_append ..)⟩⟩
theorem srai (rd rs1 : RegIdx) (shamt : BitVec 6) : Statement (.srai rd rs1 shamt) := ⟨_, rfl,
  hits_shtype6 .SRAI _ 0b010000#6 0b101#3 0b0010011#7
    ⟨opcode_encodeI .., funct3_encodeI .., (congrArg shtype6 (imm12Field_encodeI ..)).trans (shtype6_append ..)⟩⟩
theorem addiw (rd rs1 : RegIdx) (imm : BitVec 12) : Statement (.addiw rd rs1 imm) := ⟨_, rfl,
  hits_funct3 .ADDIW _ 0b000#3 0b0011011#7 ⟨opcode_encodeI .., funct3_encodeI ..⟩⟩
theorem slliw (rd rs1 : RegIdx) (shamt : BitVec 5) : Statement (.slliw rd rs1 shamt) := ⟨_, rfl,
  hits_funct7 .SLLIW _ 0b0000000#7 0b001#3 0b0011011#7
    ⟨opcode_encodeI .., funct3_encodeI .., (funct7_encodeI ..).trans (shtype7_append ..)⟩⟩
theorem srliw (rd rs1 : RegIdx) (shamt : BitVec 5) : Statement (.srliw rd rs1 shamt) := ⟨_, rfl,
  hits_funct7 .SRLIW _ 0b0000000#7 0b101#3 0b0011011#7
    ⟨opcode_encodeI .., funct3_encodeI .., (funct7_encodeI ..).trans (shtype7_append ..)⟩⟩
theorem sraiw (rd rs1 : RegIdx) (shamt : BitVec 5) : Statement (.sraiw rd rs1 shamt) := ⟨_, rfl,
  hits_funct7 .SRAIW _ 0b0100000#7 0b101#3 0b0011011#7
    ⟨opcode_encodeI .., funct3_encodeI .., (funct7_encodeI ..).trans (shtype7_append ..)⟩⟩
theorem jalr (rd rs1 : RegIdx) (imm : BitVec 12) : Statement (.jalr rd rs1 imm) := ⟨_, rfl,
  hits_funct3 .JALR _ 0b000#3 0b1100111#7 ⟨opcode_encodeI .., funct3_encodeI ..⟩⟩
theorem ecall : Statement (.ecall) := ⟨_, rfl,
  rfl⟩
theorem ebreak : Statement (.ebreak) := ⟨_, rfl,
  rfl⟩
theorem lui (rd : RegIdx) (imm : BitVec 32) : Statement (.lui rd imm) := ⟨_, rfl,
  hits_opcode .LUI _ 0b0110111#7 (opcode_encodeU ..)⟩
theorem auipc (rd : RegIdx) (imm : BitVec 32) : Statement (.auipc rd imm) := ⟨_, rfl,
  hits_opcode .AUIPC _ 0b0010111#7 (opcode_encodeU ..)⟩
theorem sb (rs1 rs2 : RegIdx) (imm : BitVec 12) : Statement (.sb rs1 rs2 imm) := ⟨_, rfl,
  hits_funct3 .SB _ 0b000#3 0b0100011#7 ⟨opcode_encodeS .., funct3_encodeS ..⟩⟩
theorem sh (rs1 rs2 : RegIdx) (imm : BitVec 12) : Statement (.sh rs1 rs2 imm) := ⟨_, rfl,
  hits_funct3 .SH _ 0b001#3 0b0100011#7 ⟨opcode_encodeS .., funct3_encodeS ..⟩⟩
theorem sw (rs1 rs2 : RegIdx) (imm : BitVec 12) : Statement (.sw rs1 rs2 imm) := ⟨_, rfl,
  hits_funct3 .SW _ 0b010#3 0b0100011#7 ⟨opcode_encodeS .., funct3_encodeS ..⟩⟩
theorem sd (rs1 rs2 : RegIdx) (imm : BitVec 12) : Statement (.sd rs1 rs2 imm) := ⟨_, rfl,
  hits_funct3 .SD _ 0b011#3 0b0100011#7 ⟨opcode_encodeS .., funct3_encodeS ..⟩⟩
theorem add (rd rs1 rs2 : RegIdx) : Statement (.add rd rs1 rs2) := ⟨_, rfl,
  hits_funct7 .ADD _ 0b0000000#7 0b000#3 0b0110011#7 ⟨opcode_encodeR .., funct3_encodeR .., funct7_encodeR ..⟩⟩
theorem sub (rd rs1 rs2 : RegIdx) : Statement (.sub rd rs1 rs2) := ⟨_, rfl,
  hits_funct7 .SUB _ 0b0100000#7 0b000#3 0b0110011#7 ⟨opcode_encodeR .., funct3_encodeR .., funct7_encodeR ..⟩⟩
theorem sll (rd rs1 rs2 : RegIdx) : Statement (.sll rd rs1 rs2) := ⟨_, rfl,
  hits_funct7 .SLL _ 0b0000000#7 0b001#3 0b0110011#7 ⟨opcode_encodeR .., funct3_encodeR .., funct7_encodeR ..⟩⟩
theorem slt (rd rs1 rs2 : RegIdx) : Statement (.slt rd rs1 rs2) := ⟨_, rfl,
  hits_funct7 .SLT _ 0b0000000#7 0b010#3 0b0110011#7 ⟨opcode_encodeR .., funct3_encodeR .., funct7_encodeR ..⟩⟩
theorem sltu (rd rs1 rs2 : RegIdx) : Statement (.sltu rd rs1 rs2) := ⟨_, rfl,
  hits_funct7 .SLTU _ 0b0000000#7 0b011#3 0b0110011#7 ⟨opcode_encodeR .., funct3_encodeR .., funct7_encodeR ..⟩⟩
theorem xor (rd rs1 rs2 : RegIdx) : Statement (.xor rd rs1 rs2) := ⟨_, rfl,
  hits_funct7 .XOR _ 0b0000000#7 0b100#3 0b0110011#7 ⟨opcode_encodeR .., funct3_encodeR .., funct7_encodeR ..⟩⟩
theorem srl (rd rs1 rs2 : RegIdx) : Statement (.srl rd rs1 rs2) := ⟨_, rfl,
  hits_funct7 .SRL _ 0b0000000#7 0b101#3 0b0110011#7 ⟨opcode_encodeR .., funct3_encodeR .., funct7_encodeR ..⟩⟩
theorem sra (rd rs1 rs2 : RegIdx) : Statement (.sra rd rs1 rs2) := ⟨_, rfl,
  hits_funct7 .SRA _ 0b0100000#7 0b101#3 0b0110011#7 ⟨opcode_encodeR .., funct3_encodeR .., funct7_encodeR ..⟩⟩
theorem or (rd rs1 rs2 : RegIdx) : Statement (.or rd rs1 rs2) := ⟨_, rfl,
  hits_funct7 .OR _ 0b0000000#7 0b110#3 0b0110011#7 ⟨opcode_encodeR .., funct3_encodeR .., funct7_encodeR ..⟩⟩
theorem and (rd rs1 rs2 : RegIdx) : Statement (.and rd rs1 rs2) := ⟨_, rfl,
  hits_funct7 .AND _ 0b0000000#7 0b111#3 0b0110011#7 ⟨opcode_encodeR .., funct3_encodeR .., funct7_encodeR ..⟩⟩
theorem addw (rd rs1 rs2 : RegIdx) : Statement (.addw rd rs1 rs2) := ⟨_, rfl,
  hits_funct7 .ADDW _ 0b0000000#7 0b000#3 0b0111011#7 ⟨opcode_encodeR .., funct3_encodeR .., funct7_encodeR ..⟩⟩
theorem subw (rd rs1 rs2 : RegIdx) : Statement (.subw rd rs1 rs2) := ⟨_, rfl,
  hits_funct7 .SUBW _ 0b0100000#7 0b000#3 0b0111011#7 ⟨opcode_encodeR .., funct3_encodeR .., funct7_encodeR ..⟩⟩
theorem sllw (rd rs1 rs2 : RegIdx) : Statement (.sllw rd rs1 rs2) := ⟨_, rfl,
  hits_funct7 .SLLW _ 0b0000000#7 0b001#3 0b0111011#7 ⟨opcode_encodeR .., funct3_encodeR .., funct7_encodeR ..⟩⟩
theorem srlw (rd rs1 rs2 : RegIdx) : Statement (.srlw rd rs1 rs2) := ⟨_, rfl,
  hits_funct7 .SRLW _ 0b0000000#7 0b101#3 0b0111011#7 ⟨opcode_encodeR .., funct3_encodeR .., funct7_encodeR ..⟩⟩
theorem sraw (rd rs1 rs2 : RegIdx) : Statement (.sraw rd rs1 rs2) := ⟨_, rfl,
  hits_funct7 .SRAW _ 0b0100000#7 0b101#3 0b0111011#7 ⟨opcode_encodeR .., funct3_encodeR .., funct7_encodeR ..⟩⟩
theorem beq (rs1 rs2 : RegIdx) (imm : BitVec 13) : Statement (.beq rs1 rs2 imm) := ⟨_, rfl,
  hits_funct3 .BEQ _ 0b000#3 0b1100011#7 ⟨opcode_encodeB .., funct3_encodeB ..⟩⟩
theorem bne (rs1 rs2 : RegIdx) (imm : BitVec 13) : Statement (.bne rs1 rs2 imm) := ⟨_, rfl,
  hits_funct3 .BNE _ 0b001#3 0b1100011#7 ⟨opcode_encodeB .., funct3_encodeB ..⟩⟩
theorem blt (rs1 rs2 : RegIdx) (imm : BitVec 13) : Statement (.blt rs1 rs2 imm) := ⟨_, rfl,
  hits_funct3 .BLT _ 0b100#3 0b1100011#7 ⟨opcode_encodeB .., funct3_encodeB ..⟩⟩
theorem bge (rs1 rs2 : RegIdx) (imm : BitVec 13) : Statement (.bge rs1 rs2 imm) := ⟨_, rfl,
  hits_funct3 .BGE _ 0b101#3 0b1100011#7 ⟨opcode_encodeB .., funct3_encodeB ..⟩⟩
theorem bltu (rs1 rs2 : RegIdx) (imm : BitVec 13) : Statement (.bltu rs1 rs2 imm) := ⟨_, rfl,
  hits_funct3 .BLTU _ 0b110#3 0b1100011#7 ⟨opcode_encodeB .., funct3_encodeB ..⟩⟩
theorem bgeu (rs1 rs2 : RegIdx) (imm : BitVec 13) : Statement (.bgeu rs1 rs2 imm) := ⟨_, rfl,
  hits_funct3 .BGEU _ 0b111#3 0b1100011#7 ⟨opcode_encodeB .., funct3_encodeB ..⟩⟩
theorem jal (rd : RegIdx) (imm : BitVec 21) : Statement (.jal rd imm) := ⟨_, rfl,
  hits_opcode .JAL _ 0b1101111#7 (opcode_encodeJ ..)⟩

end Sys2Proof.Laws.EncodesItsRow
end

