-- ==== Sys2Proof/Tests/Slice0.lean ====
section
/-! SUPPORT. The model's own tests. Expected results are the spec's own vectors (95_test_vectors.md) or the examples
of the rule named; each theorem `witness_<Name>` shows concrete values that meet the hypotheses of the obligation
of that name. -/

namespace Sys2Proof.Tests

open Sys2Proof Sys2Proof.Machine

/-! ## WellFormed: one ill-formed term for each check, which the check refuses -/

theorem test_wellFormed_refuses_odd_branch_offsets :
    (Instr.beq 1 2 7).wellFormed = false ∧ (Instr.bne 1 2 1).wellFormed = false ∧
    (Instr.blt 1 2 (-1)).wellFormed = false ∧ (Instr.bge 1 2 4095).wellFormed = false ∧
    (Instr.bltu 1 2 (-4095)).wellFormed = false ∧ (Instr.bgeu 1 2 3).wellFormed = false := by decide

theorem test_wellFormed_refuses_odd_jal_offsets :
    (Instr.jal 1 3).wellFormed = false ∧ (Instr.jal 1 (-1)).wellFormed = false := by decide

theorem test_wellFormed_refuses_low_bits_in_upper_immediates :
    (Instr.lui 1 0x12345001).wellFormed = false ∧ (Instr.auipc 1 0x800).wellFormed = false := by decide

theorem test_wellFormed_takes_the_ends_of_the_ranges :
    (Instr.beq 1 2 4094).wellFormed = true ∧ (Instr.jal 1 (-1048576)).wellFormed = true ∧
    (Instr.lui 31 0xfffff000).wellFormed = true ∧ (Instr.fence 15 15 15 31 31).wellFormed = true := by decide

/-! ## Decoding: one word per constructor, written out field by field from its encoding (30_encoding.md section 1)

The words and expected results are rows of 95_test_vectors.md sections 1 to 3. -/

theorem test_decode_lb : decodeWord 0b111111111000_00010_000_00001_0000011#32 = some (.lb 1 2 (-8)) := by decide
theorem test_decode_lh : decodeWord 0b000000000001_00110_001_00101_0000011#32 = some (.lh 5 6 1) := by decide
theorem test_decode_lw : decodeWord 0b011111111111_01011_010_01010_0000011#32 = some (.lw 10 11 2047) := by decide
theorem test_decode_lbu : decodeWord 0b100000000000_00000_100_11111_0000011#32 = some (.lbu 31 0 (-2048)) := by decide
theorem test_decode_lhu : decodeWord 0b111111111111_11111_101_11111_0000011#32 = some (.lhu 31 31 (-1)) := by decide
theorem test_decode_lwu : decodeWord 0b111111111111_11111_110_11111_0000011#32 = some (.lwu 31 31 (-1)) := by decide
theorem test_decode_ld : decodeWord 0b011111111111_01000_011_00111_0000011#32 = some (.ld 7 8 2047) := by decide
theorem test_decode_fence : decodeWord 0b0000_0001_0010_00000_000_00000_0001111#32 = some (.fence 2 1 0 0 0) := by decide
theorem test_decode_addi : decodeWord 0b100000000000_00010_000_00001_0010011#32 = some (.addi 1 2 (-2048)) := by decide
theorem test_decode_slti : decodeWord 0b100000000000_00100_010_00011_0010011#32 = some (.slti 3 4 (-2048)) := by decide
theorem test_decode_sltiu : decodeWord 0b111111111111_00110_011_00101_0010011#32 = some (.sltiu 5 6 (-1)) := by decide
theorem test_decode_xori : decodeWord 0b111111111111_01000_100_00111_0010011#32 = some (.xori 7 8 (-1)) := by decide
theorem test_decode_ori : decodeWord 0b010101010101_01010_110_01001_0010011#32 = some (.ori 9 10 1365) := by decide
theorem test_decode_andi : decodeWord 0b011111111111_01100_111_01011_0010011#32 = some (.andi 11 12 2047) := by decide
theorem test_decode_slli : decodeWord 0b000000_111111_00010_001_00001_0010011#32 = some (.slli 1 2 63) := by decide
theorem test_decode_srli : decodeWord 0b000000_111111_00100_101_00011_0010011#32 = some (.srli 3 4 63) := by decide
theorem test_decode_srai : decodeWord 0b010000_111111_00100_101_00011_0010011#32 = some (.srai 3 4 63) := by decide
theorem test_decode_addiw : decodeWord 0b100000000000_00010_000_00001_0011011#32 = some (.addiw 1 2 (-2048)) := by decide
theorem test_decode_slliw : decodeWord 0b0000000_11111_00010_001_00001_0011011#32 = some (.slliw 1 2 31) := by decide
theorem test_decode_srliw : decodeWord 0b0000000_11111_00010_101_00001_0011011#32 = some (.srliw 1 2 31) := by decide
theorem test_decode_sraiw : decodeWord 0b0100000_11111_00010_101_00001_0011011#32 = some (.sraiw 1 2 31) := by decide
theorem test_decode_jalr : decodeWord 0b111111111100_00101_000_00001_1100111#32 = some (.jalr 1 5 (-4)) := by decide
theorem test_decode_ecall : decodeWord 0b000000000000_00000_000_00000_1110011#32 = some (.ecall) := by decide
theorem test_decode_ebreak : decodeWord 0b000000000001_00000_000_00000_1110011#32 = some (.ebreak) := by decide
theorem test_decode_lui : decodeWord 0b10000000000000000000_00101_0110111#32 = some (.lui 5 (-2147483648)) := by decide
theorem test_decode_auipc : decodeWord 0b01111111111111111111_11111_0010111#32 = some (.auipc 31 2147479552) := by decide
theorem test_decode_sb : decodeWord 0b1111111_00001_00010_000_11111_0100011#32 = some (.sb 2 1 (-1)) := by decide
theorem test_decode_sh : decodeWord 0b0000000_00011_00100_001_00010_0100011#32 = some (.sh 4 3 2) := by decide
theorem test_decode_sw : decodeWord 0b0111111_01010_00010_010_11111_0100011#32 = some (.sw 2 10 2047) := by decide
theorem test_decode_sd : decodeWord 0b1000000_00001_00010_011_00000_0100011#32 = some (.sd 2 1 (-2048)) := by decide
theorem test_decode_add : decodeWord 0b0000000_00011_00010_000_00001_0110011#32 = some (.add 1 2 3) := by decide
theorem test_decode_sub : decodeWord 0b0100000_00011_00010_000_00001_0110011#32 = some (.sub 1 2 3) := by decide
theorem test_decode_sll : decodeWord 0b0000000_00100_00011_001_00010_0110011#32 = some (.sll 2 3 4) := by decide
theorem test_decode_slt : decodeWord 0b0000000_00101_00100_010_00011_0110011#32 = some (.slt 3 4 5) := by decide
theorem test_decode_sltu : decodeWord 0b0000000_00110_00101_011_00100_0110011#32 = some (.sltu 4 5 6) := by decide
theorem test_decode_xor : decodeWord 0b0000000_00111_00110_100_00101_0110011#32 = some (.xor 5 6 7) := by decide
theorem test_decode_srl : decodeWord 0b0000000_01000_00111_101_00110_0110011#32 = some (.srl 6 7 8) := by decide
theorem test_decode_sra : decodeWord 0b0100000_01000_00111_101_00110_0110011#32 = some (.sra 6 7 8) := by decide
theorem test_decode_or : decodeWord 0b0000000_01001_01000_110_00111_0110011#32 = some (.or 7 8 9) := by decide
theorem test_decode_and : decodeWord 0b0000000_01010_01001_111_01000_0110011#32 = some (.and 8 9 10) := by decide
theorem test_decode_addw : decodeWord 0b0000000_00011_00010_000_00001_0111011#32 = some (.addw 1 2 3) := by decide
theorem test_decode_subw : decodeWord 0b0100000_00011_00010_000_00001_0111011#32 = some (.subw 1 2 3) := by decide
theorem test_decode_sllw : decodeWord 0b0000000_00100_00011_001_00010_0111011#32 = some (.sllw 2 3 4) := by decide
theorem test_decode_srlw : decodeWord 0b0000000_01000_00111_101_00110_0111011#32 = some (.srlw 6 7 8) := by decide
theorem test_decode_sraw : decodeWord 0b0100000_01000_00111_101_00110_0111011#32 = some (.sraw 6 7 8) := by decide
theorem test_decode_beq : decodeWord 0b0_111111_00010_00001_000_1111_0_1100011#32 = some (.beq 1 2 2046) := by decide
theorem test_decode_bne : decodeWord 0b1_000000_00010_00001_001_0000_1_1100011#32 = some (.bne 1 2 (-2048)) := by decide
theorem test_decode_blt : decodeWord 0b1_000000_00100_00011_100_0000_0_1100011#32 = some (.blt 3 4 (-4096)) := by decide
theorem test_decode_bge : decodeWord 0b0_111111_00110_00101_101_1111_1_1100011#32 = some (.bge 5 6 4094) := by decide
theorem test_decode_bltu : decodeWord 0b0_000001_01000_00111_110_1100_0_1100011#32 = some (.bltu 7 8 56) := by decide
theorem test_decode_bgeu : decodeWord 0b0_000010_01001_01000_111_0000_0_1100011#32 = some (.bgeu 8 9 64) := by decide
theorem test_decode_jal : decodeWord 0b1_0000000000_0_00000000_00001_1101111#32 = some (.jal 1 (-1048576)) := by decide

/-! ## Reports: the operand lists at the ends of their ranges (95_test_vectors.md section 3) -/

theorem test_report_loads :
    decode 0xffff8f83#32 = .decoded .LB [.reg 31, .reg 31, .imm (-1)] ∧
    decode 0xffff9f83#32 = .decoded .LH [.reg 31, .reg 31, .imm (-1)] ∧
    decode 0xffffaf83#32 = .decoded .LW [.reg 31, .reg 31, .imm (-1)] ∧
    decode 0xffffcf83#32 = .decoded .LBU [.reg 31, .reg 31, .imm (-1)] ∧
    decode 0x00005003#32 = .decoded .LHU [.reg 0, .reg 0, .imm 0] ∧
    decode 0x00006003#32 = .decoded .LWU [.reg 0, .reg 0, .imm 0] ∧
    decode 0xffffbf83#32 = .decoded .LD [.reg 31, .reg 31, .imm (-1)] := by decide

theorem test_report_fence :
    decode 0x0000000f#32 = .decoded .FENCE [.imm 0, .imm 0, .imm 0] ∧
    decode 0xf000000f#32 = .decoded .FENCE [.imm 0, .imm 0, .imm 15] := by decide

theorem test_report_immediate_alu :
    decode 0xffff8f93#32 = .decoded .ADDI [.reg 31, .reg 31, .imm (-1)] ∧
    decode 0xffffaf93#32 = .decoded .SLTI [.reg 31, .reg 31, .imm (-1)] ∧
    decode 0xffffbf93#32 = .decoded .SLTIU [.reg 31, .reg 31, .imm (-1)] ∧
    decode 0xffffcf93#32 = .decoded .XORI [.reg 31, .reg 31, .imm (-1)] ∧
    decode 0xffffef93#32 = .decoded .ORI [.reg 31, .reg 31, .imm (-1)] ∧
    decode 0xffffff93#32 = .decoded .ANDI [.reg 31, .reg 31, .imm (-1)] := by decide

theorem test_report_shift_immediates :
    decode 0x00011093#32 = .decoded .SLLI [.reg 1, .reg 2, .imm 0] ∧
    decode 0x00025193#32 = .decoded .SRLI [.reg 3, .reg 4, .imm 0] ∧
    decode 0x40025193#32 = .decoded .SRAI [.reg 3, .reg 4, .imm 0] := by decide

theorem test_report_word_immediates :
    decode 0xfff1009b#32 = .decoded .ADDIW [.reg 1, .reg 2, .imm (-1)] ∧
    decode 0x0001109b#32 = .decoded .SLLIW [.reg 1, .reg 2, .imm 0] ∧
    decode 0x0188d89b#32 = .decoded .SRLIW [.reg 17, .reg 17, .imm 24] ∧
    decode 0x4001509b#32 = .decoded .SRAIW [.reg 1, .reg 2, .imm 0] := by decide

theorem test_report_jalr :
    decode 0x800f8fe7#32 = .decoded .JALR [.reg 31, .reg 31, .imm (-2048)] ∧
    decode 0x7ff080e7#32 = .decoded .JALR [.reg 1, .reg 1, .imm 2047] := by decide

theorem test_report_system :
    decode 0x00000073#32 = .decoded .ECALL [] ∧
    decode 0x00100073#32 = .decoded .EBREAK [] := by decide

theorem test_report_upper :
    decode 0xdeadb537#32 = .decoded .LUI [.reg 10, .imm (-559042560)] ∧
    decode 0x7ffff137#32 = .decoded .LUI [.reg 2, .imm 2147479552] ∧
    decode 0x80000017#32 = .decoded .AUIPC [.reg 0, .imm (-2147483648)] ∧
    decode 0x00001197#32 = .decoded .AUIPC [.reg 3, .imm 4096] := by decide

theorem test_report_stores :
    decode 0x00000023#32 = .decoded .SB [.reg 0, .reg 0, .imm 0] ∧
    decode 0x003210a3#32 = .decoded .SH [.reg 4, .reg 3, .imm 1] ∧
    decode 0xfe002023#32 = .decoded .SW [.reg 0, .reg 0, .imm (-32)] ∧
    decode 0xffffbfa3#32 = .decoded .SD [.reg 31, .reg 31, .imm (-1)] := by decide

theorem test_report_alu :
    decode 0x00000033#32 = .decoded .ADD [.reg 0, .reg 0, .reg 0] ∧
    decode 0x403100b3#32 = .decoded .SUB [.reg 1, .reg 2, .reg 3] ∧
    decode 0x00419133#32 = .decoded .SLL [.reg 2, .reg 3, .reg 4] ∧
    decode 0x005221b3#32 = .decoded .SLT [.reg 3, .reg 4, .reg 5] ∧
    decode 0x0062b233#32 = .decoded .SLTU [.reg 4, .reg 5, .reg 6] ∧
    decode 0x007342b3#32 = .decoded .XOR [.reg 5, .reg 6, .reg 7] ∧
    decode 0x0083d333#32 = .decoded .SRL [.reg 6, .reg 7, .reg 8] ∧
    decode 0x4083d333#32 = .decoded .SRA [.reg 6, .reg 7, .reg 8] ∧
    decode 0x009463b3#32 = .decoded .OR [.reg 7, .reg 8, .reg 9] ∧
    decode 0x00a4f433#32 = .decoded .AND [.reg 8, .reg 9, .reg 10] := by decide

theorem test_report_word_alu :
    decode 0x003100bb#32 = .decoded .ADDW [.reg 1, .reg 2, .reg 3] ∧
    decode 0x403100bb#32 = .decoded .SUBW [.reg 1, .reg 2, .reg 3] ∧
    decode 0x0041913b#32 = .decoded .SLLW [.reg 2, .reg 3, .reg 4] ∧
    decode 0x0083d33b#32 = .decoded .SRLW [.reg 6, .reg 7, .reg 8] ∧
    decode 0x4083d33b#32 = .decoded .SRAW [.reg 6, .reg 7, .reg 8] := by decide

theorem test_report_branches :
    decode 0x80000063#32 = .decoded .BEQ [.reg 0, .reg 0, .imm (-4096)] ∧
    decode 0xfe059ce3#32 = .decoded .BNE [.reg 11, .reg 0, .imm (-8)] ∧
    decode 0x0262c463#32 = .decoded .BLT [.reg 5, .reg 6, .imm 40] ∧
    decode 0x02735863#32 = .decoded .BGE [.reg 6, .reg 7, .imm 48] ∧
    decode 0x0083e163#32 = .decoded .BLTU [.reg 7, .reg 8, .imm 2] ∧
    decode 0xfea4ffe3#32 = .decoded .BGEU [.reg 9, .reg 10, .imm (-2)] := by decide

theorem test_report_jal :
    decode 0x80200fef#32 = .decoded .JAL [.reg 31, .imm (-1048574)] ∧
    decode 0x7ffff0ef#32 = .decoded .JAL [.reg 1, .imm 1048574] := by decide

/-! ## Neighbours that are Undefined (95_test_vectors.md section 3) -/

theorem test_undefined_load :
    decode 0x00007003#32 = .undefined ∧
    decode 0xffffff83#32 = .undefined := by decide

theorem test_undefined_fence :
    decode 0x0000100f#32 = .undefined ∧
    decode 0x0ff0200f#32 = .undefined ∧
    decode 0x0000700f#32 = .undefined := by decide

theorem test_undefined_op_imm :
    decode 0x04011093#32 = .undefined ∧
    decode 0x40311093#32 = .undefined ∧
    decode 0x80011093#32 = .undefined ∧
    decode 0x80125193#32 = .undefined ∧
    decode 0x44125193#32 = .undefined ∧
    decode 0x04125193#32 = .undefined ∧
    decode 0x20125193#32 = .undefined ∧
    decode 0xc0125193#32 = .undefined ∧
    decode 0xffffdf93#32 = .undefined := by decide

theorem test_undefined_op_imm_32 :
    decode 0x0201109b#32 = .undefined ∧
    decode 0x4011109b#32 = .undefined ∧
    decode 0x4201509b#32 = .undefined ∧
    decode 0x0211509b#32 = .undefined ∧
    decode 0x8001509b#32 = .undefined ∧
    decode 0x0001209b#32 = .undefined ∧
    decode 0x0001309b#32 = .undefined ∧
    decode 0x0001409b#32 = .undefined ∧
    decode 0x0001609b#32 = .undefined ∧
    decode 0x0001709b#32 = .undefined := by decide

theorem test_undefined_jalr :
    decode 0x00009067#32 = .undefined ∧
    decode 0x0000f067#32 = .undefined := by decide

theorem test_undefined_system :
    decode 0x00200073#32 = .undefined ∧
    decode 0x000000f3#32 = .undefined ∧
    decode 0x00008073#32 = .undefined ∧
    decode 0x00001073#32 = .undefined ∧
    decode 0x00000f73#32 = .undefined ∧
    decode 0xfff00073#32 = .undefined ∧
    decode 0x80000073#32 = .undefined ∧
    decode 0x00100f73#32 = .undefined ∧
    decode 0x30200073#32 = .undefined ∧
    decode 0x10200073#32 = .undefined ∧
    decode 0x10500073#32 = .undefined ∧
    decode 0x12000073#32 = .undefined ∧
    decode 0xc0002573#32 = .undefined ∧
    decode 0x34011173#32 = .undefined ∧
    decode 0x00005073#32 = .undefined := by decide

theorem test_undefined_op :
    decode 0x023100b3#32 = .undefined ∧
    decode 0x023150b3#32 = .undefined ∧
    decode 0x203100b3#32 = .undefined ∧
    decode 0x803100b3#32 = .undefined ∧
    decode 0xc03100b3#32 = .undefined ∧
    decode 0x423100b3#32 = .undefined ∧
    decode 0xfe3100b3#32 = .undefined ∧
    decode 0x203150b3#32 = .undefined ∧
    decode 0x423150b3#32 = .undefined ∧
    decode 0x403110b3#32 = .undefined ∧
    decode 0x403120b3#32 = .undefined ∧
    decode 0x403130b3#32 = .undefined ∧
    decode 0x403140b3#32 = .undefined ∧
    decode 0x403160b3#32 = .undefined ∧
    decode 0x403170b3#32 = .undefined := by decide

theorem test_undefined_op_32 :
    decode 0x003120bb#32 = .undefined ∧
    decode 0x003130bb#32 = .undefined ∧
    decode 0x003140bb#32 = .undefined ∧
    decode 0x003160bb#32 = .undefined ∧
    decode 0x003170bb#32 = .undefined ∧
    decode 0x403110bb#32 = .undefined ∧
    decode 0x023100bb#32 = .undefined ∧
    decode 0x023150bb#32 = .undefined ∧
    decode 0x023140bb#32 = .undefined ∧
    decode 0xffff8fbb#32 = .undefined := by decide

theorem test_undefined_store :
    decode 0x00114023#32 = .undefined ∧
    decode 0x00115023#32 = .undefined ∧
    decode 0x00116023#32 = .undefined ∧
    decode 0x00117023#32 = .undefined := by decide

theorem test_undefined_branch :
    decode 0x0020a463#32 = .undefined ∧
    decode 0x0020b463#32 = .undefined ∧
    decode 0xffffaee3#32 = .undefined := by decide

/-! ## Immediates (95_test_vectors.md sections 4 and 5) -/

theorem test_branch_round_trip :
    0x00000063#32 ||| scatterB 30 = 0x00000f63#32 ∧ immB 0x00000f63#32 = 30 ∧
    0x00000063#32 ||| scatterB 32 = 0x02000063#32 ∧ immB 0x02000063#32 = 32 ∧
    0x00000063#32 ||| scatterB (-2050) = 0xfe000f63#32 ∧ immB 0xfe000f63#32 = (-2050) ∧
    0x00000063#32 ||| scatterB 4094 = 0x7e000fe3#32 ∧ immB 0x7e000fe3#32 = 4094 ∧
    0x00000063#32 ||| scatterB (-4096) = 0x80000063#32 ∧ immB 0x80000063#32 = (-4096) ∧
    0x00000063#32 ||| scatterB 1366 = 0x54000b63#32 ∧ immB 0x54000b63#32 = 1366 ∧
    0x00000063#32 ||| scatterB (-1366) = 0xaa0005e3#32 ∧ immB 0xaa0005e3#32 = (-1366) := by decide

theorem test_jal_round_trip :
    0x0000006f#32 ||| scatterJ 2046 = 0x7fe0006f#32 ∧ immJ 0x7fe0006f#32 = 2046 ∧
    0x0000006f#32 ||| scatterJ 2048 = 0x0010006f#32 ∧ immJ 0x0010006f#32 = 2048 ∧
    0x0000006f#32 ||| scatterJ 4096 = 0x0000106f#32 ∧ immJ 0x0000106f#32 = 4096 ∧
    0x0000006f#32 ||| scatterJ 524288 = 0x0008006f#32 ∧ immJ 0x0008006f#32 = 524288 ∧
    0x0000006f#32 ||| scatterJ (-1048576) = 0x8000006f#32 ∧ immJ 0x8000006f#32 = (-1048576) ∧
    0x0000006f#32 ||| scatterJ (-699050) = 0xd565506f#32 ∧ immJ 0xd565506f#32 = (-699050) ∧
    0x0000006f#32 ||| scatterJ 349524 = 0x5545506f#32 ∧ immJ 0x5545506f#32 = 349524 := by decide

theorem test_intermediate_values :
    opcode 0x43f25193#32 = 0b0010011#7 ∧ rdField 0x43f25193#32 = 3 ∧ funct3 0x43f25193#32 = 0b101#3 ∧
    rs1Field 0x43f25193#32 = 4 ∧ rs2Field 0x43f25193#32 = 31 ∧ funct7 0x43f25193#32 = 0b0100001#7 ∧
    imm12Field 0x43f25193#32 = 0x43f#12 ∧ shamt6 0x43f#12 = 63 ∧ shtype6 0x43f#12 = 0b010000#6 ∧
    shamt5 0x43f#12 = 31 ∧ shtype7 0x43f#12 = 0b0100001#7 ∧ immI 0x8330000f#32 = -1997 ∧
    (extractB 0xfe059ce3#32).u13 = 0b1111111111000#13 ∧ (extractJ 0xffdff06f#32).u21 = 0b111111111111111111100#21 ∧
    immS 0x80113023#32 = -2048 ∧ immU 0x800002b7#32 = -2147483648 := by decide

/-! ## Format Classifier (95_test_vectors.md section 2) -/

theorem test_classifier_knows_thirteen_opcodes :
    ((List.range 128).filter fun n => (classify (BitVec.ofNat 7 n)).isSome) =
      [0x03, 0x0f, 0x13, 0x17, 0x1b, 0x23, 0x33, 0x37, 0x3b, 0x63, 0x67, 0x6f, 0x73] := by decide

theorem test_classifier_formats :
    classify 0b0000011#7 = some .I ∧ classify 0b0001111#7 = some .I ∧ classify 0b0010011#7 = some .I ∧
    classify 0b0010111#7 = some .U ∧ classify 0b0011011#7 = some .I ∧ classify 0b0100011#7 = some .S ∧
    classify 0b0110011#7 = some .R ∧ classify 0b0110111#7 = some .U ∧ classify 0b0111011#7 = some .R ∧
    classify 0b1100011#7 = some .B ∧ classify 0b1100111#7 = some .I ∧ classify 0b1101111#7 = some .J ∧
    classify 0b1110011#7 = some .I := by decide

/-! ## Ports (95_test_vectors.md section 6) -/

theorem test_ports :
    portsOf (decode 0x0188889b#32) = Ports.mk false 2 18 true true false true false 17 17 0 0x0000000000000018 0 0 0 ∧
    portsOf (decode 0xff810083#32) = Ports.mk false 2 1 true true false true false 1 2 0 0xfffffffffffffff8 0 0 0 ∧
    portsOf (decode 0x43f25193#32) = Ports.mk false 2 17 true true false true false 3 4 0 0x000000000000003f 0 0 0 ∧
    portsOf (decode 0x8330000f#32) = Ports.mk false 2 8 false false false false true 0 0 0 0x0 3 3 8 ∧
    portsOf (decode 0x00100073#32) = Ports.mk false 2 24 false false false false false 0 0 0 0x0 0 0 0 ∧
    portsOf (decode 0x800002b7#32) = Ports.mk false 5 25 true false false true false 5 0 0 0xffffffff80000000 0 0 0 := by decide

theorem test_ports_more :
    portsOf (decode 0x80113023#32) = Ports.mk false 3 30 false true true true false 0 2 1 0xfffffffffffff800 0 0 0 ∧
    portsOf (decode 0x403100b3#32) = Ports.mk false 1 32 true true true false false 1 2 3 0x0 0 0 0 ∧
    portsOf (decode 0xfe059ce3#32) = Ports.mk false 4 47 false true true true false 0 11 0 0xfffffffffffffff8 0 0 0 ∧
    portsOf (decode 0xffdff06f#32) = Ports.mk false 6 52 true false false true false 0 0 0 0xfffffffffffffffc 0 0 0 ∧
    portsOf (decode 0x023100b3#32) = Ports.mk true 0 0 false false false false false 0 0 0 0x0 0 0 0 ∧
    portsOf (decode 0x00000000#32) = Ports.mk true 0 0 false false false false false 0 0 0 0x0 0 0 0 := by decide

/-! ## Bytes and the opcode-table entry points -/

/-- 95_test_vectors.md section 6: the same four bytes read in each order. -/
theorem test_byte_order :
    wordOfBytes 0xb3 0x00 0x31 0x40 = 0x403100b3#32 ∧ wordOfBytes 0x40 0x31 0x00 0xb3 = 0xb3003140#32 ∧
    decode 0xb3003140#32 = .undefined ∧
    wordsOfStream [0x73, 0x00, 0x10, 0x00, 0x9b, 0x88, 0x88, 0x01] = [0x00100073#32, 0x0188889b#32] := by decide

theorem test_decodeBytes_rejects_by_name :
    decodeBytes [0x13, 0x00, 0x00] = .error .shortInput ∧
    decodeBytes [0xb3, 0x00, 0x31, 0x02] = .error .undefinedInstruction ∧
    decodeBytes [0x73, 0x00, 0x10, 0x00, 0x55] = .ok (.ebreak, [0x55]) := by
  refine ⟨rfl, rfl, rfl⟩

theorem test_decodeTableWord :
    decodeTableWord 32 0x00100073 = some .ebreak ∧ decodeTableWord 32 0x403100b3 = some (.sub 1 2 3) ∧
    decodeTableWord 32 0x00000000 = none := by decide

/-- The opcode table's word runs as the first instruction after reset. -/
theorem test_withFetchWord_runs_from_reset :
    step (State.reset.withFetchWord 32 0xffdff0ef) =
      .next (State.mk 0xffdff0ef#32 (.decoded .JAL [.reg 1, .imm (-4)]) [] [.decoded .JAL [.reg 1, .imm (-4)]]) := rfl

/-- 95_test_vectors.md section 8, P3 at offset 16: a refused word delivers Undefined and the stream goes on. -/
theorem test_step_on_a_refused_word :
    step (State.reset.withStream [0x33, 0x84, 0x72, 0x02, 0xbb, 0x84, 0x53, 0x40]) =
      .next (State.mk 0x02728433#32 .undefined [0x405384bb#32] [.undefined]) := rfl

/-- The 52 rows of the table, each mnemonic once (R67). -/
theorem test_table_has_52_rows :
    opcodeTable.length = 52 ∧ (opcodeTable.map Row.mnemonic).Nodup ∧
    opcodeTable.map (fun r => r.mnemonic.code.toNat) = (List.range 52).map (· + 1) := by decide

/-! ## Witnesses: values that meet the hypotheses of each obligation that has some -/

theorem witness_InstructionsChangeOnlyTheResult :
    exec (.sd 11 5 (-2048)) State.reset =
      .next (State.mk 0 (.decoded .SD [.reg 11, .reg 5, .imm (-2048)]) [] []) := rfl

theorem witness_LoadWordsDecode :
    0x00000003#32 &&& 0x0000707f#32 = 0x00000003#32 ∧ 0xffff8f83#32 &&& 0x0000707f#32 = 0x00000003#32 ∧
    0x00001003#32 &&& 0x0000707f#32 = 0x00001003#32 ∧ 0xffff9f83#32 &&& 0x0000707f#32 = 0x00001003#32 ∧
    0x00002003#32 &&& 0x0000707f#32 = 0x00002003#32 ∧ 0xffffaf83#32 &&& 0x0000707f#32 = 0x00002003#32 ∧
    0x00004003#32 &&& 0x0000707f#32 = 0x00004003#32 ∧ 0xffffcf83#32 &&& 0x0000707f#32 = 0x00004003#32 ∧
    0x00005003#32 &&& 0x0000707f#32 = 0x00005003#32 ∧ 0xffffdf83#32 &&& 0x0000707f#32 = 0x00005003#32 ∧
    0x00006003#32 &&& 0x0000707f#32 = 0x00006003#32 ∧ 0xffffef83#32 &&& 0x0000707f#32 = 0x00006003#32 ∧
    0x00003003#32 &&& 0x0000707f#32 = 0x00003003#32 ∧ 0xffffbf83#32 &&& 0x0000707f#32 = 0x00003003#32 := by decide

theorem witness_FenceWordsDecode :
    0x0000000f#32 &&& 0x0000707f#32 = 0x0000000f#32 ∧ 0xffff8f8f#32 &&& 0x0000707f#32 = 0x0000000f#32 := by decide

theorem witness_ImmediateAluWordsDecode :
    0x00000013#32 &&& 0x0000707f#32 = 0x00000013#32 ∧ 0xffff8f93#32 &&& 0x0000707f#32 = 0x00000013#32 ∧
    0x00002013#32 &&& 0x0000707f#32 = 0x00002013#32 ∧ 0xffffaf93#32 &&& 0x0000707f#32 = 0x00002013#32 ∧
    0x00003013#32 &&& 0x0000707f#32 = 0x00003013#32 ∧ 0xffffbf93#32 &&& 0x0000707f#32 = 0x00003013#32 ∧
    0x00004013#32 &&& 0x0000707f#32 = 0x00004013#32 ∧ 0xffffcf93#32 &&& 0x0000707f#32 = 0x00004013#32 ∧
    0x00006013#32 &&& 0x0000707f#32 = 0x00006013#32 ∧ 0xffffef93#32 &&& 0x0000707f#32 = 0x00006013#32 ∧
    0x00007013#32 &&& 0x0000707f#32 = 0x00007013#32 ∧ 0xffffff93#32 &&& 0x0000707f#32 = 0x00007013#32 := by decide

theorem witness_ShiftImmediateWordsDecode :
    0x00001013#32 &&& 0xfc00707f#32 = 0x00001013#32 ∧ 0x03ff9f93#32 &&& 0xfc00707f#32 = 0x00001013#32 ∧
    0x00005013#32 &&& 0xfc00707f#32 = 0x00005013#32 ∧ 0x03ffdf93#32 &&& 0xfc00707f#32 = 0x00005013#32 ∧
    0x40005013#32 &&& 0xfc00707f#32 = 0x40005013#32 ∧ 0x43ffdf93#32 &&& 0xfc00707f#32 = 0x40005013#32 := by decide

theorem witness_WordImmediateWordsDecode :
    0x0000001b#32 &&& 0x0000707f#32 = 0x0000001b#32 ∧ 0xffff8f9b#32 &&& 0x0000707f#32 = 0x0000001b#32 ∧
    0x0000101b#32 &&& 0xfe00707f#32 = 0x0000101b#32 ∧ 0x01ff9f9b#32 &&& 0xfe00707f#32 = 0x0000101b#32 ∧
    0x0000501b#32 &&& 0xfe00707f#32 = 0x0000501b#32 ∧ 0x01ffdf9b#32 &&& 0xfe00707f#32 = 0x0000501b#32 ∧
    0x4000501b#32 &&& 0xfe00707f#32 = 0x4000501b#32 ∧ 0x41ffdf9b#32 &&& 0xfe00707f#32 = 0x4000501b#32 := by decide

theorem witness_JalrWordsDecode :
    0x00000067#32 &&& 0x0000707f#32 = 0x00000067#32 ∧ 0xffff8fe7#32 &&& 0x0000707f#32 = 0x00000067#32 := by decide

theorem witness_UpperImmediateWordsDecode :
    0x00000037#32 &&& 0x0000007f#32 = 0x00000037#32 ∧ 0xffffffb7#32 &&& 0x0000007f#32 = 0x00000037#32 ∧
    0x00000017#32 &&& 0x0000007f#32 = 0x00000017#32 ∧ 0xffffff97#32 &&& 0x0000007f#32 = 0x00000017#32 := by decide

theorem witness_StoreWordsDecode :
    0x00000023#32 &&& 0x0000707f#32 = 0x00000023#32 ∧ 0xffff8fa3#32 &&& 0x0000707f#32 = 0x00000023#32 ∧
    0x00001023#32 &&& 0x0000707f#32 = 0x00001023#32 ∧ 0xffff9fa3#32 &&& 0x0000707f#32 = 0x00001023#32 ∧
    0x00002023#32 &&& 0x0000707f#32 = 0x00002023#32 ∧ 0xffffafa3#32 &&& 0x0000707f#32 = 0x00002023#32 ∧
    0x00003023#32 &&& 0x0000707f#32 = 0x00003023#32 ∧ 0xffffbfa3#32 &&& 0x0000707f#32 = 0x00003023#32 := by decide

theorem witness_AluWordsDecode :
    0x00000033#32 &&& 0xfe00707f#32 = 0x00000033#32 ∧ 0x01ff8fb3#32 &&& 0xfe00707f#32 = 0x00000033#32 ∧
    0x40000033#32 &&& 0xfe00707f#32 = 0x40000033#32 ∧ 0x41ff8fb3#32 &&& 0xfe00707f#32 = 0x40000033#32 ∧
    0x00001033#32 &&& 0xfe00707f#32 = 0x00001033#32 ∧ 0x01ff9fb3#32 &&& 0xfe00707f#32 = 0x00001033#32 ∧
    0x00002033#32 &&& 0xfe00707f#32 = 0x00002033#32 ∧ 0x01ffafb3#32 &&& 0xfe00707f#32 = 0x00002033#32 ∧
    0x00003033#32 &&& 0xfe00707f#32 = 0x00003033#32 ∧ 0x01ffbfb3#32 &&& 0xfe00707f#32 = 0x00003033#32 ∧
    0x00004033#32 &&& 0xfe00707f#32 = 0x00004033#32 ∧ 0x01ffcfb3#32 &&& 0xfe00707f#32 = 0x00004033#32 ∧
    0x00005033#32 &&& 0xfe00707f#32 = 0x00005033#32 ∧ 0x01ffdfb3#32 &&& 0xfe00707f#32 = 0x00005033#32 ∧
    0x40005033#32 &&& 0xfe00707f#32 = 0x40005033#32 ∧ 0x41ffdfb3#32 &&& 0xfe00707f#32 = 0x40005033#32 ∧
    0x00006033#32 &&& 0xfe00707f#32 = 0x00006033#32 ∧ 0x01ffefb3#32 &&& 0xfe00707f#32 = 0x00006033#32 ∧
    0x00007033#32 &&& 0xfe00707f#32 = 0x00007033#32 ∧ 0x01ffffb3#32 &&& 0xfe00707f#32 = 0x00007033#32 := by decide

theorem witness_WordAluWordsDecode :
    0x0000003b#32 &&& 0xfe00707f#32 = 0x0000003b#32 ∧ 0x01ff8fbb#32 &&& 0xfe00707f#32 = 0x0000003b#32 ∧
    0x4000003b#32 &&& 0xfe00707f#32 = 0x4000003b#32 ∧ 0x41ff8fbb#32 &&& 0xfe00707f#32 = 0x4000003b#32 ∧
    0x0000103b#32 &&& 0xfe00707f#32 = 0x0000103b#32 ∧ 0x01ff9fbb#32 &&& 0xfe00707f#32 = 0x0000103b#32 ∧
    0x0000503b#32 &&& 0xfe00707f#32 = 0x0000503b#32 ∧ 0x01ffdfbb#32 &&& 0xfe00707f#32 = 0x0000503b#32 ∧
    0x4000503b#32 &&& 0xfe00707f#32 = 0x4000503b#32 ∧ 0x41ffdfbb#32 &&& 0xfe00707f#32 = 0x4000503b#32 := by decide

theorem witness_BranchWordsDecode :
    0x00000063#32 &&& 0x0000707f#32 = 0x00000063#32 ∧ 0xffff8fe3#32 &&& 0x0000707f#32 = 0x00000063#32 ∧
    0x00001063#32 &&& 0x0000707f#32 = 0x00001063#32 ∧ 0xffff9fe3#32 &&& 0x0000707f#32 = 0x00001063#32 ∧
    0x00004063#32 &&& 0x0000707f#32 = 0x00004063#32 ∧ 0xffffcfe3#32 &&& 0x0000707f#32 = 0x00004063#32 ∧
    0x00005063#32 &&& 0x0000707f#32 = 0x00005063#32 ∧ 0xffffdfe3#32 &&& 0x0000707f#32 = 0x00005063#32 ∧
    0x00006063#32 &&& 0x0000707f#32 = 0x00006063#32 ∧ 0xffffefe3#32 &&& 0x0000707f#32 = 0x00006063#32 ∧
    0x00007063#32 &&& 0x0000707f#32 = 0x00007063#32 ∧ 0xffffffe3#32 &&& 0x0000707f#32 = 0x00007063#32 := by decide

theorem witness_JalWordsDecode :
    0x0000006f#32 &&& 0x0000007f#32 = 0x0000006f#32 ∧ 0xffffffef#32 &&& 0x0000007f#32 = 0x0000006f#32 := by decide

/-- One word for each of the three clauses, and one for each field that a SYSTEM word can miss by one bit. -/
theorem witness_SystemGroupHasTwoWords :
    let two := fun w : Word => funct3 w = 0#3 ∧ rdField w = 0#5 ∧ rs1Field w = 0#5 ∧ (imm12Field w = 0#12 ∨ imm12Field w = 1#12)
    (opcode 0x00000073#32 = 0b1110011#7 ∧ two 0x00000073#32 ∧ imm12Field 0x00000073#32 = 0#12) ∧
    (opcode 0x00100073#32 = 0b1110011#7 ∧ two 0x00100073#32 ∧ imm12Field 0x00100073#32 = 1#12) ∧
    (opcode 0x00200073#32 = 0b1110011#7 ∧ ¬ two 0x00200073#32) ∧ (opcode 0x000000f3#32 = 0b1110011#7 ∧ ¬ two 0x000000f3#32) ∧
    (opcode 0x00008073#32 = 0b1110011#7 ∧ ¬ two 0x00008073#32) ∧ (opcode 0x00001073#32 = 0b1110011#7 ∧ ¬ two 0x00001073#32) := by decide

theorem witness_TieBreakSelectsThePair :
    let k := fun (w : Word) (op : BitVec 7) (f3 : BitVec 3) (f7 : BitVec 7) => opcode w = op ∧ funct3 w = f3 ∧ funct7 w = f7
    k 0x003100b3#32 0b0110011#7 0b000#3 0b0000000#7 ∧ k 0x403100b3#32 0b0110011#7 0b000#3 0b0100000#7 ∧
    k 0x0083d333#32 0b0110011#7 0b101#3 0b0000000#7 ∧ k 0x4083d333#32 0b0110011#7 0b101#3 0b0100000#7 ∧
    k 0x023100b3#32 0b0110011#7 0b000#3 0b0000001#7 ∧ k 0x423150b3#32 0b0110011#7 0b101#3 0b0100001#7 ∧
    k 0x403110b3#32 0b0110011#7 0b001#3 0b0100000#7 ∧ k 0x00a4f433#32 0b0110011#7 0b111#3 0b0000000#7 ∧
    k 0x003100bb#32 0b0111011#7 0b000#3 0b0000000#7 ∧ k 0x403100bb#32 0b0111011#7 0b000#3 0b0100000#7 ∧
    k 0x0083d33b#32 0b0111011#7 0b101#3 0b0000000#7 ∧ k 0x4083d33b#32 0b0111011#7 0b101#3 0b0100000#7 ∧
    k 0x023150bb#32 0b0111011#7 0b101#3 0b0000001#7 ∧ k 0x0041913b#32 0b0111011#7 0b001#3 0b0000000#7 ∧
    k 0x003120bb#32 0b0111011#7 0b010#3 0b0000000#7 ∧ k 0x003170bb#32 0b0111011#7 0b111#3 0b0000000#7 := by decide

theorem witness_TableRowsAreDisjoint :
    Row.mk .SRAI 0x40005013#32 0xfc00707f#32 ∈ opcodeTable ∧
    (Row.mk .SRAI 0x40005013#32 0xfc00707f#32).hits 0x43f25193#32 = true := by decide

theorem witness_UndefinedIsTheIllegalSpace :
    illegalSpace 0x00000000#32 = true ∧ illegalSpace 0x023100b3#32 = true ∧ illegalSpace 0x00100073#32 = false := by decide

theorem witness_EveryMnemonicIsRecognised :
    decode 0xfea4ffe3#32 = .decoded .BGEU [.reg 9, .reg 10, .imm (-2)] := by decide

theorem witness_FormatDeterminism :
    opcode 0x00111093#32 = opcode 0xfff10093#32 ∧
    decode 0x00111093#32 = .decoded .SLLI [.reg 1, .reg 2, .imm 1] ∧
    decode 0xfff10093#32 = .decoded .ADDI [.reg 1, .reg 2, .imm (-1)] := by decide

theorem witness_OpcodeOutsideTheTableIsUndefined :
    classify (opcode 0x00000000#32) = none ∧ classify (opcode 0xffffffff#32) = none := by decide

theorem witness_NoFallThrough :
    (classify (opcode 0x00007003#32) = some .I ∧ resolve .I 0x00007003#32 = none) ∧
    (classify (opcode 0x00114023#32) = some .S ∧ resolve .S 0x00114023#32 = none) ∧
    (classify (opcode 0x023100b3#32) = some .R ∧ resolve .R 0x023100b3#32 = none) ∧
    (classify (opcode 0x0020a463#32) = some .B ∧ resolve .B 0x0020a463#32 = none) := by decide

theorem witness_MultiplexerFormsAgree :
    resolve .U 0x800002b7#32 ≠ none ∧ resolve .J 0xffdff06f#32 ≠ none := by decide

/-- Equal words, and two FENCE words that differ in the ignored fields and have one result. -/
theorem witness_ResultsDetermineTheWord :
    decode 0x0ff0000f#32 = decode 0x0fff8f8f#32 ∧ decode 0x0ff0000f#32 ≠ .undefined ∧
    opcode 0x0ff0000f#32 = 0b0001111#7 ∧ 0x0ff0000f#32 &&& 0xfff0707f#32 = 0x0fff8f8f#32 &&& 0xfff0707f#32 := by decide

theorem witness_DecodeOfEncode :
    (Instr.bgeu 9 10 (-2)).wellFormed = true ∧ (Instr.jal 31 1048574).wellFormed = true ∧
    (Instr.auipc 31 0x80000000).wellFormed = true := by decide

theorem witness_EncodeOfDecode :
    decodeWord 0xd565506f#32 = some (.jal 0 (-699050)) := by decide

theorem witness_ImmediatesAreTheSignedSums :
    decode 0x80004f83#32 = .decoded .LBU [.reg 31, .reg 0, .imm (-2048)] ∧
    Mnemonic.LBU ∈ [Mnemonic.LB, .LH, .LW, .LD, .LBU, .LHU, .LWU, .ADDI, .SLTI, .SLTIU, .XORI, .ORI, .ANDI, .ADDIW, .JALR] := by decide

theorem witness_BranchAndJalOffsetsAreEven :
    (decode 0x7e62dfe3#32 = .decoded .BGE [.reg 5, .reg 6, .imm 4094] ∧ Mnemonic.format .BGE = .B) ∧
    (decode 0x800000ef#32 = .decoded .JAL [.reg 1, .imm (-1048576)] ∧ Mnemonic.format .JAL = .J) ∧
    (Mnemonic.format .BLTU = .B ∧ (-4096 : Int) ≤ 4094 ∧ (4094 : Int) ≤ 4094 ∧ (4094 : Int) % 2 = 0) ∧
    (Mnemonic.format .JAL = .J ∧ (-1048576 : Int) ≤ -1048576 ∧ (-1048576 : Int) ≤ 1048574 ∧ (-1048576 : Int) % 2 = 0) := by decide

theorem witness_BranchOffsetRoundTrip :
    ((-4096 : Int) ≤ 4094 ∧ (4094 : Int) ≤ 4094 ∧ (4094 : Int) % 2 = 0) ∧
    ((-4096 : Int) ≤ -4096 ∧ (-4096 : Int) ≤ 4094 ∧ (-4096 : Int) % 2 = 0) := by decide

theorem witness_JalOffsetRoundTrip :
    ((-1048576 : Int) ≤ -1048576 ∧ (-1048576 : Int) ≤ 1048574 ∧ (-1048576 : Int) % 2 = 0) ∧
    ((-1048576 : Int) ≤ 1048574 ∧ (1048574 : Int) ≤ 1048574 ∧ (1048574 : Int) % 2 = 0) := by decide

theorem witness_PortsUnderUndefinedAreZero :
    decode 0x023100b3#32 = .undefined ∧ decode 0x00000000#32 = .undefined := by decide

/-- Each presence output is 1 on some word and 0 on some word. -/
theorem witness_PortsCarryTheOperands :
    let p := fun w : Word => portsOf (decode w)
    ((p 0x403100b3#32).hasRd = true ∧ (p 0x80113023#32).hasRd = false) ∧
    ((p 0x403100b3#32).hasRs1 = true ∧ (p 0x800002b7#32).hasRs1 = false) ∧
    ((p 0x403100b3#32).hasRs2 = true ∧ (p 0xff810083#32).hasRs2 = false) ∧
    ((p 0xff810083#32).hasImm = true ∧ (p 0x43f25193#32).hasImm = true ∧ (p 0x403100b3#32).hasImm = false) ∧
    ((p 0x8330000f#32).hasFence = true ∧ (p 0x00100073#32).hasFence = false) ∧
    decode 0x00000003#32 = .decoded .LB [.reg 0, .reg 0, .imm 0] ∧ decode 0x800000ef#32 = .decoded .JAL [.reg 1, .imm (-1048576)] := by decide

theorem witness_PortsLoseNothing :
    portsOf (decode 0x0ff0000f#32) = portsOf (decode 0x0fff8f8f#32) ∧ portsOf (decode 0x023100b3#32) = portsOf (decode 0x00000000#32) := by decide

/-- A state that has presented one word, with two more to come. -/
def busy : State := State.mk 0x00000013#32 (.decoded .ADDI [.reg 0, .reg 0, .imm 0]) [0x00100073#32, 0x023100b3#32]
  [.decoded .ADDI [.reg 0, .reg 0, .imm 0]]

/-- The same with nothing left to present. -/
def idle : State := State.mk 0x00000013#32 (.decoded .ADDI [.reg 0, .reg 0, .imm 0]) [] []

theorem witness_StepRunsTheDecodedInstruction :
    (busy.stream = 0x00100073#32 :: [0x023100b3#32] ∧ decodeWord 0x00100073#32 = some .ebreak) ∧
    (idle.stream = [] ∧ decodeWord idle.instrI = some (.addi 0 0 0)) := by decide

theorem witness_StepOnAnUndefinedWord :
    (State.reset.withNextWord 0x023100b3#32).stream = 0x023100b3#32 :: [] ∧ decodeWord 0x023100b3#32 = none := by decide

theorem witness_StepWithoutANewWordFollowsTheInput :
    idle.stream = [] ∧ State.reset.stream = [] := by decide

theorem witness_SameWordSameResult :
    busy.instrI = idle.instrI ∧ busy ≠ idle := by decide

theorem witness_RunDeliversDecodeOfEachWord :
    2 ≤ busy.stream.length ∧ 0 ≤ State.reset.stream.length := by decide

theorem witness_StepKeepsTheInvariant :
    busy.Inv ∧
    step busy = .next (State.mk 0x00100073#32 (.decoded .EBREAK []) [0x023100b3#32]
      [.decoded .ADDI [.reg 0, .reg 0, .imm 0], .decoded .EBREAK []]) := ⟨by decide, rfl⟩

end Sys2Proof.Tests
end

section
/-! PROOFS. Family 10_state: one evaluation of the decoder. -/

namespace Sys2Proof

/-! ## Every candidate of a resolver is well-formed

Stated with `Option.all`, so that a case with no instruction and a case whose format forces no immediate bit both
close by computation. -/

theorem all_wellFormed_resolveLoad (f : IFields) : (resolveLoad f).all Instr.wellFormed = true := by
  unfold resolveLoad; split <;> rfl

theorem all_wellFormed_resolveFence (f : IFields) : (resolveFence f).all Instr.wellFormed = true := by
  unfold resolveFence; split <;> rfl

/-- The shifts look at the shift-type below funct3 (R59). -/
theorem all_wellFormed_resolveOpImm (f : IFields) : (resolveOpImm f).all Instr.wellFormed = true := by
  unfold resolveOpImm
  split
  case h_2 | h_6 => split_ifs <;> rfl
  all_goals rfl

/-- The shifts look at the shift-type below funct3 (R59). -/
theorem all_wellFormed_resolveOpImm32 (f : IFields) : (resolveOpImm32 f).all Instr.wellFormed = true := by
  unfold resolveOpImm32
  split
  case h_2 | h_3 => split_ifs <;> rfl
  all_goals rfl

theorem all_wellFormed_resolveJalr (f : IFields) : (resolveJalr f).all Instr.wellFormed = true := by
  unfold resolveJalr; split <;> rfl

theorem all_wellFormed_resolveSystem (f : IFields) : (resolveSystem f).all Instr.wellFormed = true := by
  unfold resolveSystem; split_ifs <;> rfl

theorem all_wellFormed_resolveOp (f : RFields) : (resolveOp f).all Instr.wellFormed = true := by
  unfold resolveOp; split <;> rfl

theorem all_wellFormed_resolveOp32 (f : RFields) : (resolveOp32 f).all Instr.wellFormed = true := by
  unfold resolveOp32; split <;> rfl

theorem all_wellFormed_resolveS (w : Word) : (resolveS w).all Instr.wellFormed = true := by
  unfold resolveS
  split
  · split <;> rfl
  · rfl

/-- The six branches carry the assembled offset, whose bit 0 is zero. -/
theorem all_wellFormed_resolveB (w : Word) : (resolveB w).all Instr.wellFormed = true := by
  have heven : evenB (extractB w).u13 = true := evenB_u13 w
  unfold resolveB
  split
  · split
    case h_7 => rfl
    all_goals exact heven
  · rfl

/-- U and J immediates have the zero bits their assemblers force. -/
theorem all_wellFormed_resolveGroup (w : Word) (g : Group) : (resolveGroup w g).all Instr.wellFormed = true := by
  cases g with
  | load => exact all_wellFormed_resolveLoad _
  | fence => exact all_wellFormed_resolveFence _
  | opImm => exact all_wellFormed_resolveOpImm _
  | auipc => exact placedU_imm32 w
  | opImm32 => exact all_wellFormed_resolveOpImm32 _
  | store => exact all_wellFormed_resolveS w
  | op => exact all_wellFormed_resolveOp _
  | lui => exact placedU_imm32 w
  | op32 => exact all_wellFormed_resolveOp32 _
  | branch => exact all_wellFormed_resolveB w
  | jalr => exact all_wellFormed_resolveJalr _
  | jal => exact evenJ_u21 w
  | system => exact all_wellFormed_resolveSystem _

/-- An instruction the decoder answers is well-formed. -/
theorem wellFormed_of_decodeWord {w : Word} {i : Instr} (h : decodeWord w = some i) : i.wellFormed = true := by
  rw [decodeWord_eq_resolveGroup, Option.bind_eq_some_iff] at h
  obtain ⟨g, -, hg⟩ := h
  exact Option.all_eq_true _ _ |>.mp (all_wellFormed_resolveGroup w g) i hg

/-- What `decode` can answer: Undefined, or the complete result of a well-formed instruction (R158, R165). -/
theorem decode_cases (w : Word) :
    decode w = .undefined ∨ ∃ i : Instr, i.wellFormed = true ∧ decode w = .decoded i.mnemonic i.operands := by
  unfold decode
  cases h : decodeWord w with
  | none => exact .inl rfl
  | some i => exact .inr ⟨i, wellFormed_of_decodeWord h, rfl⟩

namespace Machine

/-- Settles O52: both evaluations answer `decode` of the shared word (`evaluate_eq`), which `decode_cases` describes. -/
theorem sameWordSameResult : Obligations.SameWordSameResult := by
  intro s₁ s₂ hword
  have hnext₂ : evaluate s₂ = .next (s₂.drive (decode s₁.instrI)) := hword ▸ evaluate_eq s₂
  exact ⟨decode s₁.instrI, evaluate_eq s₁, hnext₂, decode_cases s₁.instrI⟩

end Machine

end Sys2Proof
end

section
/-! PROOFS. Family 20_memory: the alignment of branch and JAL offsets. -/

namespace Sys2Proof

/-! ## Parity of a signed offset (R40) -/

/-- Bit 0 of a two's complement number is its parity. -/
theorem extractLsb_zero_eq_zero_iff {n : Nat} (x : BitVec (n + 2)) : x.extractLsb 0 0 = 0#1 ↔ x.toInt % 2 = 0 := by
  have hbit : x.extractLsb 0 0 = 0#1 ↔ x.toNat % 2 = 0 := by
    rw [← BitVec.toNat_inj, BitVec.extractLsb_toNat]; simp
  have hmod : (2 : Int) ∣ ((2 ^ (n + 2) : Nat) : Int) := by
    exact_mod_cast dvd_pow_self 2 (Nat.succ_ne_zero (n + 1))
  rw [hbit, BitVec.toInt_eq_toNat_cond]
  split <;> omega

theorem evenB_iff (imm : BitVec 13) : evenB imm = true ↔ imm.toInt % 2 = 0 :=
  beq_iff_eq.trans (extractLsb_zero_eq_zero_iff imm)

theorem evenJ_iff (imm : BitVec 21) : evenJ imm = true ↔ imm.toInt % 2 = 0 :=
  beq_iff_eq.trans (extractLsb_zero_eq_zero_iff imm)

/-- Every even offset in the 13-bit range is the value of a B immediate (R65, R66). -/
theorem exists_evenB_toInt {v : Int} (hlow : -4096 ≤ v) (hhigh : v ≤ 4094) (heven : v % 2 = 0) :
    ∃ imm : BitVec 13, evenB imm = true ∧ imm.toInt = v := by
  have hv : (BitVec.ofInt 13 v).toInt = v := BitVec.toInt_ofInt_eq_self (by decide) (by omega) (by omega)
  exact ⟨BitVec.ofInt 13 v, (evenB_iff _).mpr (hv.symm ▸ heven), hv⟩

/-- Every even offset in the 21-bit range is the value of a J immediate (R65, R66). -/
theorem exists_evenJ_toInt {v : Int} (hlow : -1048576 ≤ v) (hhigh : v ≤ 1048574) (heven : v % 2 = 0) :
    ∃ imm : BitVec 21, evenJ imm = true ∧ imm.toInt = v := by
  have hv : (BitVec.ofInt 21 v).toInt = v := BitVec.toInt_ofInt_eq_self (by decide) (by omega) (by omega)
  exact ⟨BitVec.ofInt 21 v, (evenJ_iff _).mpr (hv.symm ▸ heven), hv⟩

/-! ## The instructions of formats B and J -/

/-- A well-formed branch or JAL has an even last operand. -/
theorem Instr.getLast?_operands_even {i : Instr} (hwf : i.wellFormed = true)
    (hformat : i.mnemonic.format = .B ∨ i.mnemonic.format = .J) :
    ∃ v : Int, i.operands.getLast? = some (.imm v) ∧ v % 2 = 0 := by
  cases i
  case beq rs1 rs2 imm | bne rs1 rs2 imm | blt rs1 rs2 imm | bge rs1 rs2 imm | bltu rs1 rs2 imm | bgeu rs1 rs2 imm =>
    exact ⟨imm.toInt, rfl, (evenB_iff imm).mp hwf⟩
  case jal rd imm => exact ⟨imm.toInt, rfl, (evenJ_iff imm).mp hwf⟩
  all_goals exact hformat.elim nofun nofun

/-- Each branch mnemonic has an instruction with any given offset (R143 to R148). -/
theorem exists_branch {m : Mnemonic} (hformat : m.format = .B) (rs1 rs2 : RegIdx) (imm : BitVec 13) :
    ∃ i : Instr, i.mnemonic = m ∧ i.wellFormed = evenB imm ∧ i.operands = rs1Rs2ImmB rs1 rs2 imm := by
  cases m
  case BEQ => exact ⟨.beq rs1 rs2 imm, rfl, rfl, rfl⟩
  case BNE => exact ⟨.bne rs1 rs2 imm, rfl, rfl, rfl⟩
  case BLT => exact ⟨.blt rs1 rs2 imm, rfl, rfl, rfl⟩
  case BGE => exact ⟨.bge rs1 rs2 imm, rfl, rfl, rfl⟩
  case BLTU => exact ⟨.bltu rs1 rs2 imm, rfl, rfl, rfl⟩
  case BGEU => exact ⟨.bgeu rs1 rs2 imm, rfl, rfl, rfl⟩
  all_goals exact nomatch hformat

/-- JAL is the one mnemonic of format J (R151). -/
theorem Mnemonic.eq_JAL_of_format {m : Mnemonic} (hformat : m.format = .J) : m = .JAL := by
  cases m
  case JAL => rfl
  all_goals exact nomatch hformat

/-! ## The words of formats B and J decode -/

@[simp] theorem extractB_opcode (w : Word) : (extractB w).opcode = opcode w := rfl
@[simp] theorem extractB_funct3 (w : Word) : (extractB w).funct3 = funct3 w := rfl
@[simp] theorem extractB_rs1 (w : Word) : (extractB w).rs1 = rs1Field w := rfl
@[simp] theorem extractB_rs2 (w : Word) : (extractB w).rs2 = rs2Field w := rfl

/-- A word of the branch group goes to the B resolver. -/
theorem decodeWord_of_opcode_branch {w : Word} (hop : opcode w = 0b1100011#7) : decodeWord w = resolveB w := by
  rw [decodeWord_eq_resolveGroup, hop]; rfl

/-- A well-formed branch is what its encoding decodes to. -/
theorem decodeWord_encode_of_format_B {i : Instr} (hwf : i.wellFormed = true) (hformat : i.mnemonic.format = .B) :
    decodeWord (encode i) = some i := by
  cases i
  case beq rs1 rs2 imm | bne rs1 rs2 imm | blt rs1 rs2 imm | bge rs1 rs2 imm | bltu rs1 rs2 imm | bgeu rs1 rs2 imm =>
    rw [encode, decodeWord_of_opcode_branch (opcode_encodeB ..)]
    simp only [resolveB, extractB_opcode, extractB_funct3, extractB_rs1, extractB_rs2, opcode_encodeB,
      funct3_encodeB, rs1Field_encodeB, rs2Field_encodeB, u13_encodeB _ _ rs1 rs2 imm hwf]
    rfl
  all_goals exact nomatch hformat

/-- A well-formed JAL is what its encoding decodes to. -/
theorem decodeWord_encode_jal (rd : RegIdx) {imm : BitVec 21} (heven : evenJ imm = true) :
    decodeWord (encode (.jal rd imm)) = some (.jal rd imm) := by
  have hop : opcode (encode (.jal rd imm)) = Group.opcode .jal := opcode_encodeJ ..
  have hrd : (extractJ (encode (.jal rd imm))).rd = rd := rdField_encodeJ ..
  have hu21 : (extractJ (encode (.jal rd imm))).u21 = imm := u21_encodeJ _ rd imm heven
  rw [decodeWord_eq_resolveGroup, hop, groupOf_opcode, Option.bind_some, resolveGroup, hrd, hu21]

/-- The result of a word that decodes to an instruction. -/
theorem decode_of_decodeWord {w : Word} {i : Instr} (h : decodeWord w = some i) :
    decode w = .decoded i.mnemonic i.operands := by
  rw [decode, h]; rfl

/-- What a defined result is: that of a well-formed instruction. -/
theorem exists_wellFormed_of_decode {w : Word} {m : Mnemonic} {ops : List Operand} (h : decode w = .decoded m ops) :
    ∃ i : Instr, i.wellFormed = true ∧ i.mnemonic = m ∧ i.operands = ops := by
  obtain hundef | ⟨i, hwf, hi⟩ := decode_cases w
  · exact absurd (h.symm.trans hundef) (by simp)
  · obtain ⟨hm, hops⟩ := DecodeResult.decoded.inj (hi.symm.trans h)
    exact ⟨i, hwf, hm, hops⟩

/-- Settles O42: evenness is the well-formedness of what decodes; an offset is reached by the word that encodes it. -/
theorem branchAndJalOffsetsAreEven : Obligations.BranchAndJalOffsetsAreEven := by
  refine ⟨?even, ?branch, ?jal⟩
  case even =>
    intro w m ops h hformat
    obtain ⟨i, hwf, rfl, rfl⟩ := exists_wellFormed_of_decode h
    exact i.getLast?_operands_even hwf hformat
  case branch =>
    intro m v hformat hlow hhigh heven
    obtain ⟨imm, himm, rfl⟩ := exists_evenB_toInt hlow hhigh heven
    obtain ⟨i, rfl, hwf, hops⟩ := exists_branch hformat 0#5 0#5 imm
    have hdecode := decodeWord_encode_of_format_B (hwf.trans himm) hformat
    exact ⟨encode i, i.operands, decode_of_decodeWord hdecode, by rw [hops]; rfl⟩
  case jal =>
    intro m v hformat hlow hhigh heven
    obtain ⟨imm, himm, rfl⟩ := exists_evenJ_toInt hlow hhigh heven
    obtain rfl := Mnemonic.eq_JAL_of_format hformat
    exact ⟨encode (.jal 0#5 imm), rdImmJ 0#5 imm, decode_of_decodeWord (decodeWord_encode_jal 0#5 himm), rfl⟩

end Sys2Proof
end

section
/-! PROOFS. Family 30_encoding: the immediates, and the operand list of a word. -/

namespace Sys2Proof

/-! ## Fields inside fields -/

/-- A field of a field is a field of the whole. -/
theorem extractLsb'_extractLsb' {n : Nat} (x : BitVec n) {start start' len len' : Nat} (h : start' + len' ≤ len) :
    (x.extractLsb' start len).extractLsb' start' len' = x.extractLsb' (start + start') len' := by
  apply BitVec.eq_of_getLsbD_eq; intro i hi
  have hinside : start' + i < len := by omega
  simp [hi, hinside, Nat.add_assoc]

/-- The J fragments counted in the word itself, not inside `w[31:12]` (R64, C5). -/
theorem extractJ_eq (w : Word) : extractJ w =
    JFields.mk (opcode w) (rdField w) (w.extractLsb 31 31) (w.extractLsb 30 21) (w.extractLsb 20 20)
      (w.extractLsb 19 12) := by
  simp only [extractJ, JFields.mk.injEq, true_and]
  refine ⟨?f20, ?f10to1, ?f11, ?f19to12⟩ <;> exact extractLsb'_extractLsb' w (by decide)

/-! ## The value of an immediate (R58, R61, R62, R64) -/

/-- A field that ends at `w[31]` is signed by that bit. -/
theorem toInt_extractLsb_top (w : Word) {lo : Nat} (hlo : lo ≤ 31) :
    (w.extractLsb 31 lo).toInt =
      (w.extractLsb 31 lo).toNat - 2 ^ (31 - lo + 1) * ((w.extractLsb 31 31).toNat : Int) := by
  have hmsb : (w.extractLsb 31 lo).msb = w.getLsbD 31 := by
    rw [BitVec.msb_eq_getLsbD_last, BitVec.getLsbD_extractLsb]; grind
  have htop : w.extractLsb 31 31 = BitVec.ofBool (w.getLsbD 31) := by
    apply BitVec.eq_of_getLsbD_eq; intro i hi
    rw [BitVec.getLsbD_extractLsb, BitVec.getLsbD_ofBool]; grind
  rw [BitVec.toInt_eq_msb_cond, hmsb, htop, BitVec.toNat_ofBool]
  cases w.getLsbD 31 <;> simp

/-! In an assembled immediate only the top fragment is signed. -/

theorem SFields.toInt_imm (f : SFields) : f.imm.toInt = 32 * f.immHi.toInt + f.immLo.toNat := BitVec.toInt_append

theorem BFields.toInt_u13 (f : BFields) : f.u13.toInt =
    4096 * f.f12.toInt + 2048 * f.f11.toNat + 32 * f.f10to5.toNat + 2 * f.f4to1.toNat := by
  have hnested : f.u13.toInt =
      2 * (16 * (64 * (2 * f.f12.toInt + f.f11.toNat) + f.f10to5.toNat) + f.f4to1.toNat) := by
    change @BitVec.toInt (1 + 1 + 6 + 4 + 1) (f.f12 ++ f.f11 ++ f.f10to5 ++ f.f4to1 ++ 0b0#1) = _
    simp only [BitVec.toInt_append]
    simp
  omega

theorem JFields.toInt_u21 (f : JFields) : f.u21.toInt =
    1048576 * f.f20.toInt + 4096 * f.f19to12.toNat + 2048 * f.f11.toNat + 2 * f.f10to1.toNat := by
  have hnested : f.u21.toInt =
      2 * (1024 * (2 * (256 * f.f20.toInt + f.f19to12.toNat) + f.f11.toNat) + f.f10to1.toNat) := by
    change @BitVec.toInt (1 + 8 + 1 + 10 + 1) (f.f20 ++ f.f19to12 ++ f.f11 ++ f.f10to1 ++ 0b0#1) = _
    simp only [BitVec.toInt_append]
    simp
  omega

theorem immI_eq_sum (w : Word) :
    immI w = (w.extractLsb 31 20).toNat - 4096 * ((w.extractLsb 31 31).toNat : Int) :=
  toInt_extractLsb_top w (by decide)

theorem immS_eq_sum (w : Word) :
    immS w = 32 * ((w.extractLsb 31 25).toNat : Int) + (w.extractLsb 11 7).toNat
      - 4096 * (w.extractLsb 31 31).toNat := by
  have hsum : immS w = 32 * (w.extractLsb 31 25).toInt + (w.extractLsb 11 7).toNat := (extractS w).toInt_imm
  have hsign := toInt_extractLsb_top w (lo := 25) (by decide)
  omega

theorem immB_eq_sum (w : Word) :
    immB w = 4096 * ((w.extractLsb 31 31).toNat : Int) + 2048 * (w.extractLsb 7 7).toNat
      + 32 * (w.extractLsb 30 25).toNat + 2 * (w.extractLsb 11 8).toNat - 8192 * (w.extractLsb 31 31).toNat := by
  have hsum : immB w = 4096 * (w.extractLsb 31 31).toInt + 2048 * (w.extractLsb 7 7).toNat
    + 32 * (w.extractLsb 30 25).toNat + 2 * (w.extractLsb 11 8).toNat := (extractB w).toInt_u13
  have hsign := toInt_extractLsb_top w (lo := 31) (by decide)
  omega

theorem immJ_eq_sum (w : Word) :
    immJ w = 1048576 * ((w.extractLsb 31 31).toNat : Int) + 4096 * (w.extractLsb 19 12).toNat
      + 2048 * (w.extractLsb 20 20).toNat + 2 * (w.extractLsb 30 21).toNat
      - 2097152 * (w.extractLsb 31 31).toNat := by
  have hsum : immJ w = 1048576 * (w.extractLsb 31 31).toInt + 4096 * (w.extractLsb 19 12).toNat
      + 2048 * (w.extractLsb 20 20).toNat + 2 * (w.extractLsb 30 21).toNat := by
    rw [immJ, extractJ_eq]; exact JFields.toInt_u21 _
  have hsign := toInt_extractLsb_top w (lo := 31) (by decide)
  omega

theorem immB_even (w : Word) : immB w % 2 = 0 := (evenB_iff _).mp (evenB_u13 w)

theorem immJ_even (w : Word) : immJ w % 2 = 0 := (evenJ_iff _).mp (evenJ_u21 w)

/-! ## The operand list of a word (R157) -/

theorem shamt6_imm12Field (w : Word) : shamt6 (imm12Field w) = w.extractLsb 25 20 :=
  extractLsb'_extractLsb' w (by decide)
theorem shamt5_imm12Field (w : Word) : shamt5 (imm12Field w) = w.extractLsb 24 20 :=
  extractLsb'_extractLsb' w (by decide)
theorem succField_imm12Field (w : Word) : succField (imm12Field w) = w.extractLsb 23 20 :=
  extractLsb'_extractLsb' w (by decide)
theorem predField_imm12Field (w : Word) : predField (imm12Field w) = w.extractLsb 27 24 :=
  extractLsb'_extractLsb' w (by decide)
theorem fmField_imm12Field (w : Word) : fmField (imm12Field w) = w.extractLsb 31 28 :=
  extractLsb'_extractLsb' w (by decide)

/-- Forcing the low 12 bits to zero is a mask (R63). -/
theorem imm32_eq_and (w : Word) : (extractU w).imm32 = w &&& 0xfffff000#32 := by
  apply BitVec.eq_of_getLsbD_eq; intro i hi
  rw [getLsbD_imm32, BitVec.getLsbD_and]
  interval_cases i <;> simp

/-- The operands of `i` are what its mnemonic's shape reads from `w`. -/
def Instr.OperandsFrom (w : Word) (i : Instr) : Prop := i.operands = i.mnemonic.form.ofWord w

section
/-! A candidate whose operands are fields of the word closes by computation; the others cite the field's lemma. -/

variable {w : Word} {i : Instr}

theorem operandsFrom_of_resolveLoad (h : resolveLoad (extractI w) = some i) : i.OperandsFrom w := by
  unfold resolveLoad at h; split at h <;> cases h <;> rfl

theorem operandsFrom_of_resolveFence (h : resolveFence (extractI w) = some i) : i.OperandsFrom w := by
  have hfields : succPredFm (succField (imm12Field w)) (predField (imm12Field w)) (fmField (imm12Field w)) =
      OperandForm.succPredFm.ofWord w := by
    rw [succField_imm12Field, predField_imm12Field, fmField_imm12Field]; rfl
  unfold resolveFence at h; split at h <;> cases h
  exact hfields

theorem operandsFrom_of_resolveOpImm (h : resolveOpImm (extractI w) = some i) : i.OperandsFrom w := by
  have hshamt : rdRs1Shamt6 (rdField w) (rs1Field w) (shamt6 (imm12Field w)) = OperandForm.rdRs1Shamt6.ofWord w := by
    rw [shamt6_imm12Field]; rfl
  unfold resolveOpImm at h
  split at h
  case h_2 | h_6 => split_ifs at h <;> cases h <;> exact hshamt
  all_goals cases h <;> rfl

theorem operandsFrom_of_resolveOpImm32 (h : resolveOpImm32 (extractI w) = some i) : i.OperandsFrom w := by
  have hshamt : rdRs1Shamt5 (rdField w) (rs1Field w) (shamt5 (imm12Field w)) = OperandForm.rdRs1Shamt5.ofWord w := by
    rw [shamt5_imm12Field]; rfl
  unfold resolveOpImm32 at h
  split at h
  case h_2 | h_3 => split_ifs at h <;> cases h <;> exact hshamt
  all_goals cases h <;> rfl

theorem operandsFrom_of_resolveJalr (h : resolveJalr (extractI w) = some i) : i.OperandsFrom w := by
  unfold resolveJalr at h; split at h <;> cases h
  rfl

theorem operandsFrom_of_resolveSystem (h : resolveSystem (extractI w) = some i) : i.OperandsFrom w := by
  unfold resolveSystem at h; split_ifs at h <;> cases h <;> rfl

theorem operandsFrom_of_resolveOp (h : resolveOp (extractR w) = some i) : i.OperandsFrom w := by
  unfold resolveOp at h; split at h <;> cases h <;> rfl

theorem operandsFrom_of_resolveOp32 (h : resolveOp32 (extractR w) = some i) : i.OperandsFrom w := by
  unfold resolveOp32 at h; split at h <;> cases h <;> rfl

theorem operandsFrom_of_resolveS (h : resolveS w = some i) : i.OperandsFrom w := by
  unfold resolveS at h
  split at h
  · split at h <;> cases h <;> rfl
  · cases h

theorem operandsFrom_of_resolveB (h : resolveB w = some i) : i.OperandsFrom w := by
  unfold resolveB at h
  split at h
  · split at h <;> cases h <;> rfl
  · cases h

/-- Every group's resolver takes the operands from the word. -/
theorem operandsFrom_of_resolveGroup {g : Group} (h : resolveGroup w g = some i) : i.OperandsFrom w := by
  cases g with
  | load => exact operandsFrom_of_resolveLoad h
  | fence => exact operandsFrom_of_resolveFence h
  | opImm => exact operandsFrom_of_resolveOpImm h
  | opImm32 => exact operandsFrom_of_resolveOpImm32 h
  | store => exact operandsFrom_of_resolveS h
  | op => exact operandsFrom_of_resolveOp h
  | op32 => exact operandsFrom_of_resolveOp32 h
  | branch => exact operandsFrom_of_resolveB h
  | jalr => exact operandsFrom_of_resolveJalr h
  | system => exact operandsFrom_of_resolveSystem h
  | lui | auipc =>
    cases h
    exact congrArg (rdImmU (rdField w)) (imm32_eq_and w)
  | jal =>
    rw [resolveGroup, extractJ_eq] at h
    cases h
    rfl

end

/-- A defined result lists the operands that its mnemonic's shape reads from the word. -/
theorem operands_of_decode {w : Word} {m : Mnemonic} {ops : List Operand} (h : decode w = .decoded m ops) :
    ops = m.form.ofWord w := by
  unfold decode at h
  cases hw : decodeWord w with
  | none => rw [hw] at h; cases h
  | some i =>
    rw [hw] at h
    cases h
    rw [decodeWord_eq_resolveGroup, Option.bind_eq_some_iff] at hw
    obtain ⟨g, -, hg⟩ := hw
    exact operandsFrom_of_resolveGroup hg

/-- Settles O40: the sums come from the assemblers' fragments, the ranges from the widths, and the last operand from
the operand shape `rd, rs1, imm_I` of the fifteen mnemonics. -/
theorem immediatesAreTheSignedSums : Obligations.ImmediatesAreTheSignedSums := by
  refine ⟨fun w => ⟨rfl, ?I, ?S, ?B, ?J⟩, ?last⟩
  case I => exact ⟨immI_eq_sum w, BitVec.le_toInt _, Int.le_of_lt_add_one BitVec.toInt_lt⟩
  case S => exact ⟨immS_eq_sum w, BitVec.le_toInt _, Int.le_of_lt_add_one BitVec.toInt_lt⟩
  case B =>
    have hlow : -4096 ≤ immB w := BitVec.le_toInt _
    have hhigh : immB w < 4096 := BitVec.toInt_lt
    have heven := immB_even w
    exact ⟨immB_eq_sum w, heven, hlow, by omega⟩
  case J =>
    have hlow : -1048576 ≤ immJ w := BitVec.le_toInt _
    have hhigh : immJ w < 1048576 := BitVec.toInt_lt
    have heven := immJ_even w
    exact ⟨immJ_eq_sum w, heven, hlow, by omega⟩
  case last =>
    intro w m ops h hm
    have hform : m.form = .rdRs1ImmI := by fin_cases hm <;> rfl
    rw [operands_of_decode h, hform]
    rfl

end Sys2Proof
end

section
/-! PROOFS. Family 40_format_classifier: the opcode alone selects the format and the group. -/

namespace Sys2Proof

/-! ## The group of a resolver's candidate (R67, R80) -/

section

variable {i : Instr}

theorem group_of_resolveLoad {f : IFields} (h : resolveLoad f = some i) : i.mnemonic.group = .load := by
  unfold resolveLoad at h; split at h <;> cases h <;> rfl

theorem group_of_resolveFence {f : IFields} (h : resolveFence f = some i) : i.mnemonic.group = .fence := by
  unfold resolveFence at h; split at h <;> cases h
  rfl

/-- The shifts look at the shift-type below funct3 (R59). -/
theorem group_of_resolveOpImm {f : IFields} (h : resolveOpImm f = some i) : i.mnemonic.group = .opImm := by
  unfold resolveOpImm at h
  split at h
  case h_2 | h_6 => split_ifs at h <;> cases h <;> rfl
  all_goals cases h <;> rfl

/-- The shifts look at the shift-type below funct3 (R59). -/
theorem group_of_resolveOpImm32 {f : IFields} (h : resolveOpImm32 f = some i) : i.mnemonic.group = .opImm32 := by
  unfold resolveOpImm32 at h
  split at h
  case h_2 | h_3 => split_ifs at h <;> cases h <;> rfl
  all_goals cases h <;> rfl

theorem group_of_resolveJalr {f : IFields} (h : resolveJalr f = some i) : i.mnemonic.group = .jalr := by
  unfold resolveJalr at h; split at h <;> cases h
  rfl

theorem group_of_resolveSystem {f : IFields} (h : resolveSystem f = some i) : i.mnemonic.group = .system := by
  unfold resolveSystem at h; split_ifs at h <;> cases h <;> rfl

theorem group_of_resolveOp {f : RFields} (h : resolveOp f = some i) : i.mnemonic.group = .op := by
  unfold resolveOp at h; split at h <;> cases h <;> rfl

theorem group_of_resolveOp32 {f : RFields} (h : resolveOp32 f = some i) : i.mnemonic.group = .op32 := by
  unfold resolveOp32 at h; split at h <;> cases h <;> rfl

theorem group_of_resolveS {w : Word} (h : resolveS w = some i) : i.mnemonic.group = .store := by
  unfold resolveS at h
  split at h
  · split at h <;> cases h <;> rfl
  · cases h

theorem group_of_resolveB {w : Word} (h : resolveB w = some i) : i.mnemonic.group = .branch := by
  unfold resolveB at h
  split at h
  · split at h <;> cases h <;> rfl
  · cases h

/-- Every group's resolver answers with mnemonics of that group only. -/
theorem group_of_resolveGroup {w : Word} {g : Group} (h : resolveGroup w g = some i) : i.mnemonic.group = g := by
  cases g with
  | load => exact group_of_resolveLoad h
  | fence => exact group_of_resolveFence h
  | opImm => exact group_of_resolveOpImm h
  | opImm32 => exact group_of_resolveOpImm32 h
  | store => exact group_of_resolveS h
  | op => exact group_of_resolveOp h
  | op32 => exact group_of_resolveOp32 h
  | branch => exact group_of_resolveB h
  | jalr => exact group_of_resolveJalr h
  | system => exact group_of_resolveSystem h
  | lui | auipc | jal => cases h; rfl

end

/-! ## What the opcode says of a result (R78, R79) -/

/-- The instruction behind a defined result. -/
theorem exists_decodeWord_of_decode {w : Word} {m : Mnemonic} {ops : List Operand} (h : decode w = .decoded m ops) :
    ∃ i : Instr, decodeWord w = some i ∧ i.mnemonic = m := by
  cases hw : decodeWord w with
  | none => rw [decode, hw] at h; cases h
  | some i => exact ⟨i, rfl, (DecodeResult.decoded.inj ((decode_of_decodeWord hw).symm.trans h)).1⟩

/-- A defined result has the opcode group that the word's opcode identifies. -/
theorem groupOf_opcode_of_decode {w : Word} {m : Mnemonic} {ops : List Operand} (h : decode w = .decoded m ops) :
    groupOf (opcode w) = some m.group := by
  obtain ⟨i, hi, rfl⟩ := exists_decodeWord_of_decode h
  rw [decodeWord_eq_resolveGroup, Option.bind_eq_some_iff] at hi
  obtain ⟨g, hgroup, hg⟩ := hi
  rw [hgroup, group_of_resolveGroup hg]

/-- Without a format no resolver is selected. -/
theorem decode_of_classify_none {w : Word} (h : classify (opcode w) = none) : decode w = .undefined := by
  rw [decode, decodeWord, h]; rfl

/-- Settles O31: both results have the group of the shared opcode, and a mnemonic's format is its group's. -/
theorem formatDeterminism : Obligations.FormatDeterminism := by
  intro w₁ w₂ hop
  refine ⟨congrArg classify hop, ?_⟩
  intro m₁ m₂ o₁ o₂ h₁ h₂
  have hgroup : m₁.group = m₂.group := Option.some.inj <|
    calc some m₁.group = groupOf (opcode w₁) := (groupOf_opcode_of_decode h₁).symm
      _ = groupOf (opcode w₂) := congrArg groupOf hop
      _ = some m₂.group := groupOf_opcode_of_decode h₂
  exact ⟨congrArg Group.format hgroup, hgroup⟩

/-- Settles O32: no resolver is selected, and one that answered would give the opcode its format
(`classify_of_resolve`). -/
theorem opcodeOutsideTheTableIsUndefined : Obligations.OpcodeOutsideTheTableIsUndefined := by
  intro w hnone
  refine ⟨decode_of_classify_none hnone, ?_⟩
  intro f
  by_contra hanswer
  exact Option.some_ne_none f ((classify_of_resolve w f hanswer).symm.trans hnone)

end Sys2Proof
end

section
/-! PROOFS. Family 41_i_type: the SYSTEM group. -/

namespace Sys2Proof

/-- A word of the SYSTEM group goes to the SYSTEM case of the I-type resolver. -/
theorem decodeWord_of_opcode_system {w : Word} (hop : opcode w = 0b1110011#7) :
    decodeWord w = resolveSystem (extractI w) := by
  rw [decodeWord_eq_resolveGroup, hop]; rfl

/-- A SYSTEM word whose funct3, rd and rs1 are zero is fixed by its immediate, since the fields make up the whole
word. -/
theorem eq_encodeI_of_system_fields {w : Word} {imm : BitVec 12} (hop : opcode w = 0b1110011#7)
    (hfields : funct3 w = 0#3 ∧ rdField w = 0#5 ∧ rs1Field w = 0#5 ∧ imm12Field w = imm) :
    w = encodeI 0#3 0b1110011#7 0#5 0#5 imm := by
  obtain ⟨hfunct3, hrd, hrs1, himm⟩ := hfields
  calc w = encodeI (funct3 w) (opcode w) (rdField w) (rs1Field w) (imm12Field w) := (encodeI_fields w).symm
    _ = encodeI 0#3 0b1110011#7 0#5 0#5 imm := by rw [hfunct3, hop, hrd, hrs1, himm]

/-- The SYSTEM resolver answers only for zero funct3, rd and rs1 with immediate 0 or 1 (R107). -/
theorem resolveSystem_eq_none {f : IFields}
    (hmiss : ¬ (f.funct3 = 0#3 ∧ f.rd = 0#5 ∧ f.rs1 = 0#5 ∧ (f.imm12 = 0#12 ∨ f.imm12 = 1#12))) :
    resolveSystem f = none := by
  unfold resolveSystem
  split_ifs with hzero himm0 himm1
  · obtain ⟨hfunct3, hrd, hrs1⟩ := hzero
    exact absurd ⟨hfunct3, hrd, hrs1, .inl himm0⟩ hmiss
  · obtain ⟨hfunct3, hrd, hrs1⟩ := hzero
    exact absurd ⟨hfunct3, hrd, hrs1, .inr himm1⟩ hmiss
  · rfl
  · rfl

/-- The result of a word that decodes to no instruction. -/
theorem decode_of_decodeWord_none {w : Word} (h : decodeWord w = none) : decode w = .undefined := by
  rw [decode, h]; rfl

/-- Settles O23: the fields leave one word for each of the two immediates (`eq_encodeI_of_system_fields`), and for
every other choice of the fields the resolver has no answer (`resolveSystem_eq_none`). -/
theorem systemGroupHasTwoWords : Obligations.SystemGroupHasTwoWords := by
  intro w hop
  refine ⟨?ecall, ?ebreak, ?other⟩
  case ecall =>
    intro hfields
    have hw : w = 0x00000073#32 := eq_encodeI_of_system_fields hop hfields
    exact ⟨hw, hw ▸ rfl⟩
  case ebreak =>
    intro hfields
    have hw : w = 0x00100073#32 := eq_encodeI_of_system_fields hop hfields
    exact ⟨hw, hw ▸ rfl⟩
  case other =>
    intro hmiss
    exact decode_of_decodeWord_none ((decodeWord_of_opcode_system hop).trans (resolveSystem_eq_none hmiss))

end Sys2Proof
end

section
/-! PROOFS. Family 45_b_type: `scatter_B` is the offset part of the B encoding. -/

namespace Sys2Proof

/-! ## The immediate bits of a B word -/

/-- `scatter_B` is the B encoding with every field but the offset zero. -/
theorem scatterB_toInt (imm : BitVec 13) : scatterB imm.toInt = encodeB 0#3 0#7 0#5 0#5 imm := by
  apply BitVec.eq_of_getLsbD_eq; intro i hi
  rw [scatterB, BitVec.ofInt_toInt, encodeB]
  simp only [BitVec.getLsbD_append, BitVec.getLsbD_zero]
  grind

/-- The offset and the other fields of a B word occupy different bits. -/
theorem encodeB_zero_or (f3 op rs1 rs2 imm) :
    encodeB f3 op rs1 rs2 0#13 ||| encodeB 0#3 0#7 0#5 0#5 imm = encodeB f3 op rs1 rs2 imm := by
  apply BitVec.eq_of_getLsbD_eq; intro i hi
  simp only [BitVec.getLsbD_or, getLsbD_encodeB, BitVec.getLsbD_zero]
  grind

/-- The bits of a B word that hold the offset: `w[31:25]` and `w[11:7]` (R54). -/
theorem encodeB_and_immediate_mask (f3 op rs1 rs2 imm) :
    encodeB f3 op rs1 rs2 imm &&& 0xfe000f80#32 = encodeB 0#3 0#7 0#5 0#5 imm := by
  apply BitVec.eq_of_getLsbD_eq; intro i hi
  simp only [BitVec.getLsbD_and, getLsbD_encodeB]
  interval_cases i <;> simp

/-! ## The two directions of R66 -/

/-- The assembler gives back an even offset that was scattered. -/
theorem immB_scatterB_toInt {imm : BitVec 13} (heven : evenB imm = true) : immB (scatterB imm.toInt) = imm.toInt := by
  rw [scatterB_toInt, immB, u13_encodeB _ _ _ _ imm heven]

/-- The BEQ word with a scattered offset is the encoding of that BEQ (R143). -/
theorem or_scatterB_toInt_eq_encode_beq (imm : BitVec 13) :
    0x00000063#32 ||| scatterB imm.toInt = encode (.beq 0#5 0#5 imm) := by
  have hkey : 0x00000063#32 = encodeB 0b000#3 0b1100011#7 0#5 0#5 0#13 := rfl
  rw [scatterB_toInt, hkey, encodeB_zero_or, encode]

/-- Scattering the assembled offset of a word gives back the bits it was assembled from. -/
theorem scatterB_immB (w : Word) : scatterB (immB w) = w &&& 0xfe000f80#32 :=
  calc scatterB (immB w) = encodeB 0#3 0#7 0#5 0#5 (extractB w).u13 := scatterB_toInt _
    _ = encodeB (funct3 w) (opcode w) (rs1Field w) (rs2Field w) (extractB w).u13 &&& 0xfe000f80#32 :=
      (encodeB_and_immediate_mask ..).symm
    _ = w &&& 0xfe000f80#32 := by rw [encodeB_fields]

/-- Settles O43: an even offset in the range is the value of an even B immediate, and `scatter_B` of that value is the
B encoding with the other fields zero (`scatterB_toInt`). -/
theorem branchOffsetRoundTrip : Obligations.BranchOffsetRoundTrip := by
  refine ⟨?offset, scatterB_immB⟩
  case offset =>
    intro v hlow hhigh heven
    obtain ⟨imm, himm, rfl⟩ := exists_evenB_toInt hlow hhigh heven
    have hdecode : decodeWord (encode (.beq 0#5 0#5 imm)) = some (.beq 0#5 0#5 imm) :=
      decodeWord_encode_of_format_B himm rfl
    refine ⟨immB_scatterB_toInt himm, ?_⟩
    rw [or_scatterB_toInt_eq_encode_beq, decode_of_decodeWord hdecode]
    rfl

end Sys2Proof
end

section
/-! PROOFS. Family 46_j_type: `scatter_J` is the offset part of the J encoding. -/

namespace Sys2Proof

/-! ## The immediate bits of a J word -/

/-- `scatter_J` is the J encoding with every field but the offset zero. -/
theorem scatterJ_toInt (imm : BitVec 21) : scatterJ imm.toInt = encodeJ 0#7 0#5 imm := by
  apply BitVec.eq_of_getLsbD_eq; intro i hi
  rw [scatterJ, BitVec.ofInt_toInt, encodeJ]
  simp only [BitVec.getLsbD_append, BitVec.getLsbD_zero]
  grind

/-- The offset and the other fields of a J word occupy different bits. -/
theorem encodeJ_zero_or (op rd imm) : encodeJ op rd 0#21 ||| encodeJ 0#7 0#5 imm = encodeJ op rd imm := by
  apply BitVec.eq_of_getLsbD_eq; intro i hi
  simp only [BitVec.getLsbD_or, getLsbD_encodeJ, BitVec.getLsbD_zero]
  grind

/-- The bits of a J word that hold the offset: `w[31:12]` (R56). -/
theorem encodeJ_and_immediate_mask (op rd imm) : encodeJ op rd imm &&& 0xfffff000#32 = encodeJ 0#7 0#5 imm := by
  apply BitVec.eq_of_getLsbD_eq; intro i hi
  simp only [BitVec.getLsbD_and, getLsbD_encodeJ]
  interval_cases i <;> simp

/-! ## The two directions of R66 -/

/-- The assembler gives back an even offset that was scattered. -/
theorem immJ_scatterJ_toInt {imm : BitVec 21} (heven : evenJ imm = true) : immJ (scatterJ imm.toInt) = imm.toInt := by
  rw [scatterJ_toInt, immJ, u21_encodeJ _ _ imm heven]

/-- The JAL word with a scattered offset is the encoding of that JAL (R152). -/
theorem or_scatterJ_toInt_eq_encode_jal (imm : BitVec 21) :
    0x0000006f#32 ||| scatterJ imm.toInt = encode (.jal 0#5 imm) := by
  have hkey : 0x0000006f#32 = encodeJ 0b1101111#7 0#5 0#21 := rfl
  rw [scatterJ_toInt, hkey, encodeJ_zero_or, encode]

/-- Scattering the assembled offset of a word gives back the bits it was assembled from. -/
theorem scatterJ_immJ (w : Word) : scatterJ (immJ w) = w &&& 0xfffff000#32 :=
  calc scatterJ (immJ w) = encodeJ 0#7 0#5 (extractJ w).u21 := scatterJ_toInt _
    _ = encodeJ (opcode w) (rdField w) (extractJ w).u21 &&& 0xfffff000#32 := (encodeJ_and_immediate_mask ..).symm
    _ = w &&& 0xfffff000#32 := by rw [encodeJ_fields]

/-- Settles O44: an even offset in the range is the value of an even J immediate, and `scatter_J` of that value is the
J encoding with the other fields zero (`scatterJ_toInt`). -/
theorem jalOffsetRoundTrip : Obligations.JalOffsetRoundTrip := by
  refine ⟨?offset, scatterJ_immJ⟩
  case offset =>
    intro v hlow hhigh heven
    obtain ⟨imm, himm, rfl⟩ := exists_evenJ_toInt hlow hhigh heven
    refine ⟨immJ_scatterJ_toInt himm, ?_⟩
    rw [or_scatterJ_toInt_eq_encode_jal, decode_of_decodeWord (decodeWord_encode_jal 0#5 himm)]
    rfl

end Sys2Proof
end

section
/-! PROOFS. Family 47_resolver_mux: the word of a decoded instruction, and the candidates of the other resolvers. -/

namespace Sys2Proof

/-! ## A word whose key fields are known

The register operands and the immediate are the word's own; the encoder's key is the word's too when the dispatch has
found it there. -/

section

variable {w : Word} {op f7 : BitVec 7} {f3 : BitVec 3}

theorem encodeI_of_fields (hop : opcode w = op) (hf3 : funct3 w = f3) {imm : BitVec 12} (himm : imm = imm12Field w) :
    encodeI f3 op (rdField w) (rs1Field w) imm = w := by
  subst hop hf3 himm; exact encodeI_fields w

theorem encodeR_of_fields (hop : opcode w = op) (hf3 : funct3 w = f3) (hf7 : funct7 w = f7) :
    encodeR f7 f3 op (rdField w) (rs1Field w) (rs2Field w) = w := by
  subst hop hf3 hf7; exact encodeR_fields w

theorem encodeS_of_fields (hop : opcode w = op) (hf3 : funct3 w = f3) :
    encodeS f3 op (rs1Field w) (rs2Field w) (extractS w).imm = w := by
  subst hop hf3; exact encodeS_fields w

theorem encodeB_of_fields (hop : opcode w = op) (hf3 : funct3 w = f3) :
    encodeB f3 op (rs1Field w) (rs2Field w) (extractB w).u13 = w := by
  subst hop hf3; exact encodeB_fields w

theorem encodeU_of_opcode (hop : opcode w = op) : encodeU op (rdField w) (extractU w).imm32 = w := by
  subst hop; exact encodeU_fields w

theorem encodeJ_of_opcode (hop : opcode w = op) : encodeJ op (rdField w) (extractJ w).u21 = w := by
  subst hop; exact encodeJ_fields w

end

/-! ## A resolver's candidate encodes back to the word

In each branch of a dispatch the equation that selects it gives the key field. -/

section

variable {w : Word} {i : Instr}

theorem encode_of_resolveLoad (hop : opcode w = Group.opcode .load) (h : resolveLoad (extractI w) = some i) :
    encode i = w := by
  unfold resolveLoad at h
  split at h <;> cases h <;> exact encodeI_of_fields hop ‹funct3 w = _› rfl

/-- The three sub-fields make up the immediate, and the candidate carries the ignored `rd` and `rs1` (log entry 6). -/
theorem encode_of_resolveFence (hop : opcode w = Group.opcode .fence) (h : resolveFence (extractI w) = some i) :
    encode i = w := by
  unfold resolveFence at h
  split at h <;> cases h
  exact encodeI_of_fields hop ‹funct3 w = _› (fm_pred_succ _)

/-- The shift-type that the dispatch examines and the shift amount make up the immediate (R59). -/
theorem encode_of_resolveOpImm (hop : opcode w = Group.opcode .opImm) (h : resolveOpImm (extractI w) = some i) :
    encode i = w := by
  unfold resolveOpImm at h
  split at h
  case h_2 | h_6 => split_ifs at h <;> cases h <;> exact encodeI_of_fields hop ‹funct3 w = _› (shtype6_shamt6 _ _ ‹_›)
  all_goals cases h <;> exact encodeI_of_fields hop ‹funct3 w = _› rfl

/-- The shift-type that the dispatch examines and the shift amount make up the immediate (R59). -/
theorem encode_of_resolveOpImm32 (hop : opcode w = Group.opcode .opImm32) (h : resolveOpImm32 (extractI w) = some i) :
    encode i = w := by
  unfold resolveOpImm32 at h
  split at h
  case h_2 | h_3 => split_ifs at h <;> cases h <;> exact encodeI_of_fields hop ‹funct3 w = _› (shtype7_shamt5 _ _ ‹_›)
  all_goals cases h <;> exact encodeI_of_fields hop ‹funct3 w = _› rfl

theorem encode_of_resolveJalr (hop : opcode w = Group.opcode .jalr) (h : resolveJalr (extractI w) = some i) :
    encode i = w := by
  unfold resolveJalr at h
  split at h <;> cases h
  exact encodeI_of_fields hop ‹funct3 w = _› rfl

/-- The dispatch examines every field of a SYSTEM word (R107). -/
theorem encode_of_resolveSystem (hop : opcode w = Group.opcode .system) (h : resolveSystem (extractI w) = some i) :
    encode i = w := by
  unfold resolveSystem at h
  split_ifs at h with hzero himm0 himm1 <;> cases h
  · obtain ⟨hfunct3, hrd, hrs1⟩ := hzero
    exact (eq_encodeI_of_system_fields hop ⟨hfunct3, hrd, hrs1, himm0⟩).symm
  · obtain ⟨hfunct3, hrd, hrs1⟩ := hzero
    exact (eq_encodeI_of_system_fields hop ⟨hfunct3, hrd, hrs1, himm1⟩).symm

theorem encode_of_resolveOp (hop : opcode w = Group.opcode .op) (h : resolveOp (extractR w) = some i) :
    encode i = w := by
  unfold resolveOp at h
  split at h <;> cases h <;> exact encodeR_of_fields hop ‹funct3 w = _› ‹funct7 w = _›

theorem encode_of_resolveOp32 (hop : opcode w = Group.opcode .op32) (h : resolveOp32 (extractR w) = some i) :
    encode i = w := by
  unfold resolveOp32 at h
  split at h <;> cases h <;> exact encodeR_of_fields hop ‹funct3 w = _› ‹funct7 w = _›

theorem encode_of_resolveS (hop : opcode w = Group.opcode .store) (h : resolveS w = some i) : encode i = w := by
  unfold resolveS at h
  split at h
  · split at h <;> cases h <;> exact encodeS_of_fields hop ‹funct3 w = _›
  · cases h

theorem encode_of_resolveB (hop : opcode w = Group.opcode .branch) (h : resolveB w = some i) : encode i = w := by
  unfold resolveB at h
  split at h
  · split at h <;> cases h <;> exact encodeB_of_fields hop ‹funct3 w = _›
  · cases h

/-- No group's resolver drops a bit of a word of its group. -/
theorem encode_of_resolveGroup {g : Group} (hop : opcode w = g.opcode) (h : resolveGroup w g = some i) :
    encode i = w := by
  cases g with
  | load => exact encode_of_resolveLoad hop h
  | fence => exact encode_of_resolveFence hop h
  | opImm => exact encode_of_resolveOpImm hop h
  | opImm32 => exact encode_of_resolveOpImm32 hop h
  | store => exact encode_of_resolveS hop h
  | op => exact encode_of_resolveOp hop h
  | op32 => exact encode_of_resolveOp32 hop h
  | branch => exact encode_of_resolveB hop h
  | jalr => exact encode_of_resolveJalr hop h
  | system => exact encode_of_resolveSystem hop h
  | lui | auipc => cases h; exact encodeU_of_opcode hop
  | jal => cases h; exact encodeJ_of_opcode hop

end

/-- The encoding of what a word decodes to is that word. -/
theorem encode_of_decodeWord {w : Word} {i : Instr} (h : decodeWord w = some i) : encode i = w := by
  rw [decodeWord_eq_resolveGroup, Option.bind_eq_some_iff] at h
  obtain ⟨g, hgroup, hg⟩ := h
  exact encode_of_resolveGroup (opcode_of_groupOf _ g hgroup) hg

/-- Settles O38: the opcode's group fixes the resolver, whose candidate encodes back to the word
(`encode_of_resolveGroup`) and has the immediate bits its format forces (`wellFormed_of_decodeWord`). -/
theorem encodeOfDecode : Obligations.EncodeOfDecode :=
  fun _ _ h => ⟨encode_of_decodeWord h, wellFormed_of_decodeWord h⟩

/-! ## A refused word -/

/-- The decoder answers what the selected resolver answers (R154). -/
theorem decodeWord_of_classify {w : Word} {f : Format} (h : classify (opcode w) = some f) :
    decodeWord w = resolve f w := by
  rw [decodeWord, h]

/-- Settles O33: the selected resolver's answer is the decoder's (`decodeWord_of_classify`), and a resolver that
answers is the selected one (`classify_of_resolve`). -/
theorem noFallThrough : Obligations.NoFallThrough := by
  intro w f hf hnone
  refine ⟨decode_of_decodeWord_none ((decodeWord_of_classify hf).trans hnone), ?_⟩
  intro g
  by_contra hanswer
  have hfg : f = g := Option.some.inj (hf.symm.trans (classify_of_resolve w g hanswer))
  exact hanswer (hfg ▸ hnone)

end Sys2Proof
end

section
/-! PROOFS. Family other: decoding the encoding of an instruction. -/

namespace Sys2Proof

/-! ## The fields that an extractor finds in an encoded word -/

theorem extractI_encodeI (f3 op rd rs1 imm) : extractI (encodeI f3 op rd rs1 imm) = ⟨op, rd, f3, rs1, imm⟩ := by
  simp only [extractI, opcode_encodeI, rdField_encodeI, funct3_encodeI, rs1Field_encodeI, imm12Field_encodeI]

theorem extractR_encodeR (f7 f3 op rd rs1 rs2) :
    extractR (encodeR f7 f3 op rd rs1 rs2) = ⟨op, rd, f3, rs1, rs2, f7⟩ := by
  simp only [extractR, opcode_encodeR, rdField_encodeR, funct3_encodeR, rs1Field_encodeR, rs2Field_encodeR,
    funct7_encodeR]

@[simp] theorem extractS_opcode (w : Word) : (extractS w).opcode = opcode w := rfl
@[simp] theorem extractS_funct3 (w : Word) : (extractS w).funct3 = funct3 w := rfl
@[simp] theorem extractS_rs1 (w : Word) : (extractS w).rs1 = rs1Field w := rfl
@[simp] theorem extractS_rs2 (w : Word) : (extractS w).rs2 = rs2Field w := rfl

/-! ## The resolver that an encoded word goes to -/

/-- A word whose opcode is a group's goes to that group's dispatch. -/
theorem decodeWord_of_opcode {w : Word} {g : Group} (hop : opcode w = g.opcode) : decodeWord w = resolveGroup w g := by
  rw [decodeWord_eq_resolveGroup, hop, groupOf_opcode, Option.bind_some]

/-- A word of the store group goes to the S resolver. -/
theorem decodeWord_of_opcode_store {w : Word} (hop : opcode w = 0b0100011#7) : decodeWord w = resolveS w :=
  decodeWord_of_opcode (g := .store) hop

/-- An I word goes to its group's case of the I resolver, with the fields it was built from. -/
theorem decodeWord_encodeI {g : Group} {res : IFields → Option Instr} (hres : ∀ w, resolveGroup w g = res (extractI w))
    (f3 : BitVec 3) (rd rs1 : RegIdx) (imm : BitVec 12) :
    decodeWord (encodeI f3 g.opcode rd rs1 imm) = res ⟨g.opcode, rd, f3, rs1, imm⟩ := by
  rw [decodeWord_of_opcode (opcode_encodeI ..), hres, extractI_encodeI]

/-- An R word goes to its family of the R resolver, with the fields it was built from. -/
theorem decodeWord_encodeR {g : Group} {res : RFields → Option Instr} (hres : ∀ w, resolveGroup w g = res (extractR w))
    (f7 : BitVec 7) (f3 : BitVec 3) (rd rs1 rs2 : RegIdx) :
    decodeWord (encodeR f7 f3 g.opcode rd rs1 rs2) = res ⟨g.opcode, rd, f3, rs1, rs2, f7⟩ := by
  rw [decodeWord_of_opcode (opcode_encodeR ..), hres, extractR_encodeR]

/-- A U word goes to its group's case of the U resolver, which gives back an immediate placed at bit 12. -/
theorem decodeWord_encodeU {g : Group} {mk : RegIdx → BitVec 32 → Instr}
    (hres : ∀ w, resolveGroup w g = some (mk (rdField w) (extractU w).imm32)) (rd : RegIdx) {imm : BitVec 32}
    (hplaced : placedU imm = true) : decodeWord (encodeU g.opcode rd imm) = some (mk rd imm) := by
  rw [decodeWord_of_opcode (opcode_encodeU ..), hres, rdField_encodeU, imm32_encodeU _ rd imm hplaced]

/-! ## Every instruction -/

/-- Settles O37: an encoded word goes to the resolver of its own opcode group, and the extractor hands that resolver
the fields the word was built from; a sub-field of the immediate and an assembled immediate come back whole. -/
theorem decodeOfEncode : Obligations.DecodeOfEncode := by
  intro i hwf
  cases i
  case lb | lh | lw | lbu | lhu | lwu | ld =>
    exact decodeWord_encodeI (g := .load) (res := resolveLoad) (fun _ => rfl) ..
  case addi | slti | sltiu | xori | ori | andi =>
    exact decodeWord_encodeI (g := .opImm) (res := resolveOpImm) (fun _ => rfl) ..
  case addiw => exact decodeWord_encodeI (g := .opImm32) (res := resolveOpImm32) (fun _ => rfl) ..
  case jalr => exact decodeWord_encodeI (g := .jalr) (res := resolveJalr) (fun _ => rfl) ..
  case ecall | ebreak => exact decodeWord_encodeI (g := .system) (res := resolveSystem) (fun _ => rfl) ..
  case fence =>
    refine (decodeWord_encodeI (g := .fence) (res := resolveFence) (fun _ => rfl) ..).trans ?_
    simp only [resolveFence, succField_append, predField_append, fmField_append]
  case slli | srli | srai =>
    refine (decodeWord_encodeI (g := .opImm) (res := resolveOpImm) (fun _ => rfl) ..).trans ?_
    simp only [resolveOpImm, shtype6_append, shamt6_append]
    rfl
  case slliw | srliw | sraiw =>
    refine (decodeWord_encodeI (g := .opImm32) (res := resolveOpImm32) (fun _ => rfl) ..).trans ?_
    simp only [resolveOpImm32, shtype7_append, shamt5_append]
    rfl
  case add | sub | sll | slt | sltu | xor | srl | sra | or | and =>
    exact decodeWord_encodeR (g := .op) (res := resolveOp) (fun _ => rfl) ..
  case addw | subw | sllw | srlw | sraw =>
    exact decodeWord_encodeR (g := .op32) (res := resolveOp32) (fun _ => rfl) ..
  case lui rd imm => exact decodeWord_encodeU (g := .lui) (fun _ => rfl) rd hwf
  case auipc rd imm => exact decodeWord_encodeU (g := .auipc) (fun _ => rfl) rd hwf
  case sb rs1 rs2 imm | sh rs1 rs2 imm | sw rs1 rs2 imm | sd rs1 rs2 imm =>
    rw [encode, decodeWord_of_opcode_store (opcode_encodeS ..)]
    simp only [resolveS, extractS_opcode, extractS_funct3, extractS_rs1, extractS_rs2, opcode_encodeS, funct3_encodeS,
      rs1Field_encodeS, rs2Field_encodeS, imm_encodeS]
    rfl
  case beq | bne | blt | bge | bltu | bgeu => exact decodeWord_encode_of_format_B hwf rfl
  case jal rd imm => exact decodeWord_encode_jal rd hwf

end Sys2Proof
end

section
/-! PROOFS. Family other: every result is complete, and the sign of every immediate. -/

namespace Sys2Proof

/-! ## The U immediate (R63) -/

/-- The U immediate is the upper 20 bits, signed, at bit 12. -/
theorem immU_eq (w : Word) : immU w = 4096 * (w.extractLsb 31 12).toInt := by
  have happend : immU w = 4096 * (w.extractLsb 31 12).toInt + (0#12).toNat := BitVec.toInt_append
  simpa using happend

theorem immU_eq_sum (w : Word) :
    immU w = 4096 * ((w.extractLsb 31 12).toNat : Int) - 4294967296 * ((w.extractLsb 31 31).toNat : Int) := by
  have hsum := immU_eq w
  have hsign := toInt_extractLsb_top w (lo := 12) (by decide)
  omega

/-! ## Complete results (R157, R158, R65) -/

/-- A field read as a number stays below the power of its width. -/
theorem ofNat_toNat_mem_range {n b : Nat} (hb : 2 ^ n = b + 1) (x : BitVec n) :
    0 ≤ Int.ofNat x.toNat ∧ Int.ofNat x.toNat ≤ b := by
  have hlt : x.toNat < 2 ^ n := x.isLt
  exact ⟨Int.natCast_nonneg _, Int.ofNat_le.mpr (by omega)⟩

/-- What a shape reads from a word fits the shape: a field has its width's range, and an assembled immediate the zero
bits its format forces. -/
theorem OperandForm.fits_ofWord (w : Word) (f : OperandForm) : f.fits (f.ofWord w) = true := by
  cases f
  case none | rdRs1Rs2 => rfl
  case rdRs1ImmI | rs1Rs2ImmS => exact decide_eq_true ⟨BitVec.le_toInt _, Int.le_of_lt_add_one BitVec.toInt_lt⟩
  case rdRs1Shamt6 => exact decide_eq_true (ofNat_toNat_mem_range (b := 63) rfl _)
  case rdRs1Shamt5 => exact decide_eq_true (ofNat_toNat_mem_range (b := 31) rfl _)
  case succPredFm =>
    have hrange (x : BitVec 4) : 0 ≤ Int.ofNat x.toNat ∧ Int.ofNat x.toNat ≤ 15 := ofNat_toNat_mem_range rfl x
    obtain ⟨hsucc, hsucc'⟩ := hrange (w.extractLsb 23 20)
    obtain ⟨hpred, hpred'⟩ := hrange (w.extractLsb 27 24)
    exact decide_eq_true ⟨hsucc, hsucc', hpred, hpred', hrange (w.extractLsb 31 28)⟩
  case rdImmU =>
    have himm : (w &&& 0xfffff000#32).toInt = immU w := congrArg BitVec.toInt (imm32_eq_and w).symm
    have hlow : -524288 ≤ (w.extractLsb 31 12).toInt := BitVec.le_toInt _
    have hhigh : (w.extractLsb 31 12).toInt < 524288 := BitVec.toInt_lt
    rw [immU_eq] at himm
    exact decide_eq_true (by omega)
  case rs1Rs2ImmB =>
    have hlow : -4096 ≤ immB w := BitVec.le_toInt _
    have hhigh : immB w < 4096 := BitVec.toInt_lt
    have heven := immB_even w
    have hrange : -4096 ≤ immB w ∧ immB w ≤ 4094 ∧ immB w % 2 = 0 := ⟨hlow, by omega, heven⟩
    exact decide_eq_true hrange
  case rdImmJ =>
    have hlow : -1048576 ≤ immJ w := BitVec.le_toInt _
    have hhigh : immJ w < 1048576 := BitVec.toInt_lt
    have heven := immJ_even w
    have hrange : -1048576 ≤ immJ w ∧ immJ w ≤ 1048574 ∧ immJ w % 2 = 0 := ⟨hlow, by omega, heven⟩
    rw [immJ, extractJ_eq] at hrange
    exact decide_eq_true hrange

/-- A defined result lists the operands that its mnemonic's shape reads from the word (`operands_of_decode`), and these
fit the shape. -/
theorem complete_decode (w : Word) : (decode w).complete = true := by
  cases h : decode w with
  | undefined => rfl
  | decoded m ops =>
    rw [operands_of_decode h]
    exact m.form.fits_ofWord w

/-- Settles O36, by `complete_decode`. -/
theorem everyResultIsComplete : Obligations.EveryResultIsComplete := complete_decode

/-! ## The sign of an immediate (R65) -/

/-- An immediate whose top bit is `w[31]` is negative exactly when that bit is set. -/
theorem toInt_neg_iff_of_top {n : Nat} {x : BitVec (n + 1)} {b : Bool} (htop : x.getLsbD n = b) :
    x.toInt < 0 ↔ b = true := by
  have hmsb : x.msb = b := (BitVec.msb_eq_getLsbD_last x).trans htop
  rw [← hmsb, BitVec.msb_eq_toInt, decide_eq_true_iff]

/-- Settles O41: the top bit of each assembled immediate is `w[31]`, and the U immediate is the upper 20 bits at
bit 12. -/
theorem signBitIsTheTopBitOfTheWord : Obligations.SignBitIsTheTopBitOfTheWord := fun w =>
  ⟨toInt_neg_iff_of_top (getLsbD_imm12Field w 11), toInt_neg_iff_of_top (getLsbD_immS w 11),
    toInt_neg_iff_of_top (getLsbD_u13 w 12), toInt_neg_iff_of_top (getLsbD_imm32 w 31),
    toInt_neg_iff_of_top (getLsbD_u21 w 20), immU_eq_sum w⟩

end Sys2Proof
end

section
/-! PROOFS. Family other: what an instruction's meaning, a step and a run do. -/

namespace Sys2Proof.Machine

/-! ## An instruction's meaning

Each is a case of `exec_eq`: the instruction's own result on the outputs, and nothing else. -/

/-- Settles O1: the fifteen results are `rd, rs1, imm` with the signed 12-bit immediate. -/
theorem rdRs1ImmInstructionsReport : Obligations.RdRs1ImmInstructionsReport := by
  intro rd rs1 imm s
  refine ⟨?_, ?_, ?_, ?_, ?_, ?_, ?_, ?_, ?_, ?_, ?_, ?_, ?_, ?_, ?_⟩ <;> exact exec_eq _ s

/-- Settles O2: the six results are `rd, rs1, shamt` with the unsigned amount. -/
theorem shiftImmediatesReport : Obligations.ShiftImmediatesReport := by
  intro rd rs1 sh6 sh5 s
  refine ⟨?_, ?_, ?_, ?_, ?_, ?_⟩ <;> exact exec_eq _ s

/-- Settles O3: the result of a FENCE has neither of the ignored fields. -/
theorem fenceReports : Obligations.FenceReports := fun succ pred fm rs1 rd s => exec_eq (.fence succ pred fm rs1 rd) s

/-- Settles O4: the two results carry no operand. -/
theorem ecallAndEbreakReport : Obligations.EcallAndEbreakReport := fun s => ⟨exec_eq .ecall s, exec_eq .ebreak s⟩

/-- Settles O5: the two results are `rd, imm` with the signed 32-bit pattern. -/
theorem luiAndAuipcReport : Obligations.LuiAndAuipcReport := fun rd imm s =>
  ⟨exec_eq (.lui rd imm) s, exec_eq (.auipc rd imm) s⟩

/-- Settles O6: the four results are `rs1, rs2, imm`. -/
theorem storesReport : Obligations.StoresReport := by
  intro rs1 rs2 imm s
  refine ⟨?_, ?_, ?_, ?_⟩ <;> exact exec_eq _ s

/-- Settles O7: the fifteen results are `rd, rs1, rs2`. -/
theorem registerInstructionsReport : Obligations.RegisterInstructionsReport := by
  intro rd rs1 rs2 s
  refine ⟨?_, ?_, ?_, ?_, ?_, ?_, ?_, ?_, ?_, ?_, ?_, ?_, ?_, ?_, ?_⟩ <;> exact exec_eq _ s

/-- Settles O8: the six results are `rs1, rs2, imm`. -/
theorem branchesReport : Obligations.BranchesReport := by
  intro rs1 rs2 imm s
  refine ⟨?_, ?_, ?_, ?_, ?_, ?_⟩ <;> exact exec_eq _ s

/-- Settles O9: the result is `rd, imm`. -/
theorem jalReports : Obligations.JalReports := fun rd imm s => exec_eq (.jal rd imm) s

/-- Settles O10: the next state is the given one with the instruction's result driven (`exec_eq`). -/
theorem instructionsChangeOnlyTheResult : Obligations.InstructionsChangeOnlyTheResult := by
  intro i s t h
  obtain rfl : s.drive i.result = t := Host.Outcome.next.inj ((exec_eq i s).symm.trans h)
  exact ⟨rfl, rfl, rfl, rfl⟩

/-! ## A step -/

/-- All that a step can do: with an empty stream the outputs follow the held input, with a next word that word is
presented and its result taken. -/
theorem step_cases (s : State) :
    (s.stream = [] ∧ step s = .next (s.drive (decode s.instrI))) ∨
    ∃ w ws, s.stream = w :: ws ∧
      step s = .next { instrI := w, result := decode w, stream := ws, delivered := s.delivered ++ [decode w] } := by
  cases h : s.stream with
  | nil => exact .inl ⟨rfl, step_of_nil s h⟩
  | cons w ws => exact .inr ⟨w, ws, rfl, step_of_cons s w ws h⟩

/-- Settles O54: a step drives `decode` of the input (`step_cases`), and what it delivers is complete
(`complete_decode`). -/
theorem stepKeepsTheInvariant : Obligations.StepKeepsTheInvariant := by
  intro s t hinv h
  obtain ⟨-, hcomplete⟩ := hinv
  obtain ⟨-, hstep⟩ | ⟨w, ws, -, hstep⟩ := step_cases s
  · obtain rfl := Host.Outcome.next.inj (hstep.symm.trans h)
    exact ⟨rfl, hcomplete⟩
  · obtain rfl := Host.Outcome.next.inj (hstep.symm.trans h)
    refine ⟨rfl, ?_⟩
    intro r hr
    obtain hold | hnew := List.mem_append.mp hr
    · exact hcomplete r hold
    · rw [List.mem_singleton.mp hnew]; exact complete_decode w

/-- Settles O48: the next word is presented, its instruction runs (`exec_eq`), and the result is taken. -/
theorem stepRunsTheDecodedInstruction : Obligations.StepRunsTheDecodedInstruction := by
  intro s i
  refine ⟨?word, ?held⟩
  case word =>
    intro w ws hstream hi
    refine ⟨wellFormed_of_decodeWord hi, ?_⟩
    rw [step_of_cons s w ws hstream, decode_of_decodeWord hi, exec_eq]
    rfl
  case held =>
    intro hstream hi
    refine ⟨wellFormed_of_decodeWord hi, ?_⟩
    rw [step_of_nil s hstream, decode_of_decodeWord hi, exec_eq]
    rfl

/-- Settles O49: the presented word is delivered with its own result, Undefined. -/
theorem stepOnAnUndefinedWord : Obligations.StepOnAnUndefinedWord := by
  intro s w ws hstream hnone
  rw [step_of_cons s w ws hstream, decode_of_decodeWord_none hnone]

/-- Settles O50: only the result is driven. -/
theorem stepWithoutANewWordFollowsTheInput : Obligations.StepWithoutANewWordFollowsTheInput := by
  intro s hstream
  rw [step_of_nil s hstream, State.drive, hstream]

/-- The two answers of `decode`, by what the word decodes to. -/
theorem decode_eq_or (w : Word) :
    (∃ i : Instr, decodeWord w = some i ∧ decode w = .decoded i.mnemonic i.operands) ∨
      (decodeWord w = none ∧ decode w = .undefined) := by
  cases h : decodeWord w with
  | none => exact .inr ⟨rfl, decode_of_decodeWord_none h⟩
  | some i => exact .inl ⟨i, rfl, decode_of_decodeWord h⟩

/-- Settles O51: in both cases of `step_cases` the result is `decode` of the word at the input. -/
theorem everyStepCompletes : Obligations.EveryStepCompletes := by
  intro s
  obtain ⟨hstream, hstep⟩ | ⟨w, ws, hstream, hstep⟩ := step_cases s
  · exact ⟨_, hstep, by rw [hstream]; rfl, decode_eq_or _⟩
  · exact ⟨_, hstep, by rw [hstream]; rfl, decode_eq_or _⟩

/-! ## A run -/

/-- A run takes its first step, then the others from the state reached. -/
theorem run_succ {M : Host.Core} {s t : M.State} (k : Nat) (h : M.step s = .next t) : M.run (k + 1) s = M.run k t := by
  rw [Host.Core.run, h]

/-- Settles O53, by induction on the number of steps. -/
theorem runDeliversDecodeOfEachWord : Obligations.RunDeliversDecodeOfEachWord := by
  intro k
  induction k with
  | zero =>
    intro s _
    exact ⟨s, rfl, rfl, (List.append_nil _).symm⟩
  | succ k ih =>
    intro s hk
    obtain ⟨hstream, -⟩ | ⟨w, ws, hstream, hstep⟩ := step_cases s
    · rw [hstream] at hk
      exact absurd hk (Nat.not_succ_le_zero k)
    · rw [hstream] at hk ⊢
      obtain ⟨t, hrun, htstream, hdelivered⟩ :=
        ih { instrI := w, result := decode w, stream := ws, delivered := s.delivered ++ [decode w] }
          (Nat.le_of_succ_le_succ hk)
      refine ⟨t, (run_succ (M := core) k hstep).trans hrun, htstream, ?_⟩
      rw [hdelivered]
      simp

/-! ## Reset -/

/-- Settles O55: the word 0 has no opcode of the table, and nothing was delivered. -/
theorem resetHasTheInvariant : Obligations.ResetHasTheInvariant := ⟨rfl, nofun⟩

/-- Settles O56: the word 0 has no opcode of the table, and the ports of Undefined are zero. -/
theorem resetOutputsAreUndefined : Obligations.ResetOutputsAreUndefined := ⟨rfl, rfl, rfl, rfl, rfl⟩

end Sys2Proof.Machine
end

section
/-! PROOFS. Family other: the opcode table, row by row. -/

namespace Sys2Proof

/-! ## Words that agree under a mask -/

/-- A field whose bits the mask examines is the same in words that agree under it. -/
theorem extractLsb_eq_of_agree {w v mask : Word} {hi lo : Nat} (h : w &&& mask = v &&& mask)
    (hmask : mask.extractLsb hi lo = BitVec.allOnes _) : w.extractLsb hi lo = v.extractLsb hi lo := by
  have hfield := congrArg (BitVec.extractLsb hi lo) h
  rwa [BitVec.extractLsb_and, BitVec.extractLsb_and, hmask, BitVec.and_allOnes, BitVec.and_allOnes] at hfield

theorem funct3_eq_of_agree {w v : Word} (h : w &&& 0x0000707f#32 = v &&& 0x0000707f#32) :
    opcode w = opcode v ∧ funct3 w = funct3 v :=
  ⟨extractLsb_eq_of_agree h rfl, extractLsb_eq_of_agree h rfl⟩

theorem funct7_eq_of_agree {w v : Word} (h : w &&& 0xfe00707f#32 = v &&& 0xfe00707f#32) :
    funct3 w = funct3 v ∧ funct7 w = funct7 v :=
  ⟨extractLsb_eq_of_agree h rfl, extractLsb_eq_of_agree h rfl⟩

theorem shtype7_imm12Field (w : Word) : shtype7 (imm12Field w) = funct7 w := extractLsb'_extractLsb' w (by decide)
theorem shtype6_imm12Field (w : Word) : shtype6 (imm12Field w) = w.extractLsb 31 26 :=
  extractLsb'_extractLsb' w (by decide)

theorem shtype6_eq_of_agree {w v : Word} (h : w &&& 0xfc00707f#32 = v &&& 0xfc00707f#32) :
    funct3 w = funct3 v ∧ shtype6 (imm12Field w) = shtype6 (imm12Field v) := by
  rw [shtype6_imm12Field, shtype6_imm12Field]
  exact ⟨extractLsb_eq_of_agree h rfl, extractLsb_eq_of_agree h rfl⟩

/-! ## The bits a dispatch examines (R68)

A resolver's mnemonic depends on the dispatch fields alone. -/

section

variable {f g : IFields}

theorem mnemonic_resolveLoad_congr (hf3 : f.funct3 = g.funct3) :
    (resolveLoad f).map Instr.mnemonic = (resolveLoad g).map Instr.mnemonic := by
  unfold resolveLoad; rw [hf3]; split <;> rfl

theorem mnemonic_resolveFence_congr (hf3 : f.funct3 = g.funct3) :
    (resolveFence f).map Instr.mnemonic = (resolveFence g).map Instr.mnemonic := by
  unfold resolveFence; rw [hf3]; split <;> rfl

theorem mnemonic_resolveJalr_congr (hf3 : f.funct3 = g.funct3) :
    (resolveJalr f).map Instr.mnemonic = (resolveJalr g).map Instr.mnemonic := by
  unfold resolveJalr; rw [hf3]; split <;> rfl

/-- The shift-type matters at the two funct3 values of the shifts only (R59). -/
theorem mnemonic_resolveOpImm_congr (hf3 : f.funct3 = g.funct3)
    (hshtype : g.funct3 = 0b001#3 ∨ g.funct3 = 0b101#3 → shtype6 f.imm12 = shtype6 g.imm12) :
    (resolveOpImm f).map Instr.mnemonic = (resolveOpImm g).map Instr.mnemonic := by
  unfold resolveOpImm
  rw [hf3]
  split
  case h_2 h => rw [hshtype (.inl h)]; split_ifs <;> rfl
  case h_6 h => rw [hshtype (.inr h)]; split_ifs <;> rfl
  all_goals rfl

/-- The shift-type matters at the two funct3 values of the shifts only (R59). -/
theorem mnemonic_resolveOpImm32_congr (hf3 : f.funct3 = g.funct3)
    (hshtype : g.funct3 = 0b001#3 ∨ g.funct3 = 0b101#3 → shtype7 f.imm12 = shtype7 g.imm12) :
    (resolveOpImm32 f).map Instr.mnemonic = (resolveOpImm32 g).map Instr.mnemonic := by
  unfold resolveOpImm32
  rw [hf3]
  split
  case h_2 h => rw [hshtype (.inl h)]; split_ifs <;> rfl
  case h_3 h => rw [hshtype (.inr h)]; split_ifs <;> rfl
  all_goals rfl

end

section

variable {f g : RFields}

theorem mnemonic_resolveOp_congr (hf3 : f.funct3 = g.funct3) (hf7 : f.funct7 = g.funct7) :
    (resolveOp f).map Instr.mnemonic = (resolveOp g).map Instr.mnemonic := by
  unfold resolveOp; rw [hf3, hf7]; split <;> rfl

theorem mnemonic_resolveOp32_congr (hf3 : f.funct3 = g.funct3) (hf7 : f.funct7 = g.funct7) :
    (resolveOp32 f).map Instr.mnemonic = (resolveOp32 g).map Instr.mnemonic := by
  unfold resolveOp32; rw [hf3, hf7]; split <;> rfl

end

section

variable {w v : Word}

theorem mnemonic_resolveS_congr (hop : opcode w = opcode v) (hf3 : funct3 w = funct3 v) :
    (resolveS w).map Instr.mnemonic = (resolveS v).map Instr.mnemonic := by
  simp only [resolveS, extractS_opcode, extractS_funct3, hop, hf3]
  split
  · split <;> rfl
  · rfl

theorem mnemonic_resolveB_congr (hop : opcode w = opcode v) (hf3 : funct3 w = funct3 v) :
    (resolveB w).map Instr.mnemonic = (resolveB v).map Instr.mnemonic := by
  simp only [resolveB, extractB_opcode, extractB_funct3, hop, hf3]
  split
  · split <;> rfl
  · rfl

end

/-- The bits that the dispatch of a group examines, given funct3. -/
def Group.examined (f3 : BitVec 3) : Group → Word
  | .load | .fence | .jalr | .store | .branch => 0x0000707f#32
  | .opImm => if f3 = 0b001#3 ∨ f3 = 0b101#3 then 0xfc00707f#32 else 0x0000707f#32
  | .opImm32 => if f3 = 0b001#3 ∨ f3 = 0b101#3 then 0xfe00707f#32 else 0x0000707f#32
  | .op | .op32 => 0xfe00707f#32
  | .auipc | .lui | .jal => 0x0000007f#32
  | .system => 0xffffffff#32

/-- The dispatch of a group answers with one mnemonic for words that agree on the bits it examines. -/
theorem mnemonic_resolveGroup_congr {w v : Word} {g : Group}
    (h : w &&& g.examined (funct3 v) = v &&& g.examined (funct3 v)) :
    (resolveGroup w g).map Instr.mnemonic = (resolveGroup v g).map Instr.mnemonic := by
  cases g
  case auipc | lui | jal => rfl
  case load => exact mnemonic_resolveLoad_congr (funct3_eq_of_agree h).2
  case fence => exact mnemonic_resolveFence_congr (funct3_eq_of_agree h).2
  case jalr => exact mnemonic_resolveJalr_congr (funct3_eq_of_agree h).2
  case store =>
    obtain ⟨hop, hf3⟩ := funct3_eq_of_agree h
    exact mnemonic_resolveS_congr hop hf3
  case branch =>
    obtain ⟨hop, hf3⟩ := funct3_eq_of_agree h
    exact mnemonic_resolveB_congr hop hf3
  case op =>
    obtain ⟨hf3, hf7⟩ := funct7_eq_of_agree h
    exact mnemonic_resolveOp_congr hf3 hf7
  case op32 =>
    obtain ⟨hf3, hf7⟩ := funct7_eq_of_agree h
    exact mnemonic_resolveOp32_congr hf3 hf7
  case system =>
    have hwv : w &&& BitVec.allOnes 32 = v &&& BitVec.allOnes 32 := h
    rw [BitVec.and_allOnes, BitVec.and_allOnes] at hwv
    rw [hwv]
  case opImm =>
    by_cases hshift : funct3 v = 0b001#3 ∨ funct3 v = 0b101#3
    · rw [Group.examined, if_pos hshift] at h
      obtain ⟨hf3, hshtype⟩ := shtype6_eq_of_agree h
      exact mnemonic_resolveOpImm_congr hf3 fun _ => hshtype
    · rw [Group.examined, if_neg hshift] at h
      exact mnemonic_resolveOpImm_congr (funct3_eq_of_agree h).2 fun h' => absurd h' hshift
  case opImm32 =>
    by_cases hshift : funct3 v = 0b001#3 ∨ funct3 v = 0b101#3
    · rw [Group.examined, if_pos hshift] at h
      obtain ⟨hf3, hf7⟩ := funct7_eq_of_agree h
      rw [← shtype7_imm12Field, ← shtype7_imm12Field] at hf7
      exact mnemonic_resolveOpImm32_congr hf3 fun _ => hf7
    · rw [Group.examined, if_neg hshift] at h
      exact mnemonic_resolveOpImm32_congr (funct3_eq_of_agree h).2 fun h' => absurd h' hshift

/-! ## What a row of the table says (R68) -/

/-- The facts about the table itself: each row's mask is what the dispatch of its key examines, and its key is a word of
its group that decodes to its mnemonic. -/
theorem row_key {r : Row} (hr : r ∈ opcodeTable) :
    opcode r.key = r.mnemonic.group.opcode ∧ r.mask = r.mnemonic.group.examined (funct3 r.key) ∧
      r.mask.extractLsb 6 0 = BitVec.allOnes _ ∧ r.key &&& r.mask = r.key ∧
      (resolveGroup r.key r.mnemonic.group).map Instr.mnemonic = some r.mnemonic := by
  revert r; decide

/-- A word that satisfies a row decodes to the row's mnemonic. -/
theorem mnemonic_decodeWord_of_hits {r : Row} {w : Word} (hr : r ∈ opcodeTable) (h : r.hits w = true) :
    (decodeWord w).map Instr.mnemonic = some r.mnemonic := by
  obtain ⟨hop, hexamined, hmask, hself, hkey⟩ := row_key hr
  have hagree : w &&& r.mask = r.key &&& r.mask := (eq_of_beq h).trans hself.symm
  have hopcode : opcode w = r.mnemonic.group.opcode := (extractLsb_eq_of_agree hagree hmask).trans hop
  rw [decodeWord_of_opcode hopcode, mnemonic_resolveGroup_congr (hexamined ▸ hagree), hkey]

/-- A word that satisfies a row decodes to the row's mnemonic, with the operands that the row's shape reads from it. -/
theorem decode_of_hits {r : Row} {w : Word} (hr : r ∈ opcodeTable) (h : r.hits w = true) :
    decode w = .decoded r.mnemonic (r.mnemonic.form.ofWord w) := by
  obtain ⟨i, hi, hm⟩ := Option.map_eq_some_iff.mp (mnemonic_decodeWord_of_hits hr h)
  have hdecode : decode w = .decoded r.mnemonic i.operands := hm ▸ decode_of_decodeWord hi
  rw [hdecode, operands_of_decode hdecode]

theorem rowOf_eq_some {m : Mnemonic} {r : Row} (h : rowOf m = some r) : r ∈ opcodeTable ∧ r.mnemonic = m := by
  unfold rowOf at h
  have hm := List.find?_some h
  exact ⟨List.mem_of_find?_eq_some h, eq_of_beq hm⟩

/-- `decode_of_hits` for a row given by its mnemonic, key and mask. -/
theorem decode_of_key {m : Mnemonic} {key mask w : Word} (hr : rowOf m = some ⟨m, key, mask⟩)
    (h : w &&& mask = key) : decode w = .decoded m (m.form.ofWord w) :=
  decode_of_hits (rowOf_eq_some hr).1 (beq_iff_eq.mpr h)

section
open Laws.EncodesItsRow

/-- The encoding of every instruction satisfies the row of its mnemonic. -/
theorem encodesItsRow (i : Instr) : Statement i := by
  cases i
  exacts [lb .., lh .., lw .., lbu .., lhu .., lwu .., ld .., fence .., addi .., slti .., sltiu .., xori .., ori ..,
    andi .., slli .., srli .., srai .., addiw .., slliw .., srliw .., sraiw .., jalr .., ecall, ebreak, lui ..,
    auipc .., sb .., sh .., sw .., sd .., add .., sub .., sll .., slt .., sltu .., xor .., srl .., sra .., or ..,
    and .., addw .., subw .., sllw .., srlw .., sraw .., beq .., bne .., blt .., bge .., bltu .., bgeu .., jal ..]

end

/-- A word with a defined result satisfies the row of the result's mnemonic. -/
theorem exists_row_of_decode {w : Word} {m : Mnemonic} {ops : List Operand} (h : decode w = .decoded m ops) :
    ∃ r ∈ opcodeTable, r.mnemonic = m ∧ r.hits w = true := by
  obtain ⟨i, hi, rfl⟩ := exists_decodeWord_of_decode h
  obtain ⟨r, hrow, hhits⟩ := encodesItsRow i
  obtain ⟨hr, hm⟩ := rowOf_eq_some hrow
  exact ⟨r, hr, hm, encode_of_decodeWord hi ▸ hhits⟩

/-! ## The table as a whole -/

/-- A mnemonic has one row. -/
theorem rowOf_mnemonic {r : Row} (hr : r ∈ opcodeTable) : rowOf r.mnemonic = some r := by
  revert r; decide

/-- The rows that one word satisfies are one row: the word decodes to the mnemonic of each. -/
theorem row_unique {r₁ r₂ : Row} {w : Word} (hr₁ : r₁ ∈ opcodeTable) (hr₂ : r₂ ∈ opcodeTable)
    (h₁ : r₁.hits w = true) (h₂ : r₂.hits w = true) : r₁ = r₂ := by
  have hm : r₁.mnemonic = r₂.mnemonic := Option.some.inj <|
    (mnemonic_decodeWord_of_hits hr₁ h₁).symm.trans (mnemonic_decodeWord_of_hits hr₂ h₂)
  exact Option.some.inj <| (rowOf_mnemonic hr₁).symm.trans (hm ▸ rowOf_mnemonic hr₂)

/-- Settles O27, by `row_unique`. -/
theorem tableRowsAreDisjoint : Obligations.TableRowsAreDisjoint :=
  ⟨rfl, fun _ hr₁ _ hr₂ _ => row_unique hr₁ hr₂⟩

/-- Settles O26: a row that the search finds is the word's result (`decode_of_hits`), and a defined result has a row to
find (`exists_row_of_decode`). -/
theorem decodeIsTheTableSearch : Obligations.DecodeIsTheTableSearch := by
  intro w
  unfold tableDecode
  cases hfind : opcodeTable.find? (fun r => r.hits w) with
  | some r =>
    have hhits := List.find?_some hfind
    exact decode_of_hits (List.mem_of_find?_eq_some hfind) hhits
  | none =>
    cases hdecode : decode w with
    | undefined => rfl
    | decoded m ops =>
      obtain ⟨r, hr, -, hhits⟩ := exists_row_of_decode hdecode
      exact absurd hhits (List.find?_eq_none.mp hfind r hr)

/-- Settles O30: the key of a mnemonic's row is a word of it, and a result's group is that of the word's opcode. -/
theorem everyMnemonicIsRecognised : Obligations.EveryMnemonicIsRecognised := by
  refine ⟨?recognised, ?opcode⟩
  case recognised =>
    intro m
    have hrow : ∃ r, rowOf m = some r := by cases m <;> exact ⟨_, rfl⟩
    obtain ⟨r, hrow⟩ := hrow
    obtain ⟨hr, rfl⟩ := rowOf_eq_some hrow
    obtain ⟨-, -, -, hself, -⟩ := row_key hr
    exact ⟨r.key, _, decode_of_hits hr (beq_iff_eq.mpr hself)⟩
  case opcode =>
    intro w m ops h
    have hgroup := groupOf_opcode_of_decode h
    exact ⟨hgroup, by rw [classify_eq_groupOf, hgroup]; rfl⟩

/-! ## The Decode clause of each row -/

/-- Settles O11: `decode_of_key` for each row. -/
theorem loadWordsDecode : Obligations.LoadWordsDecode := by
  intro w
  refine ⟨?_, ?_, ?_, ?_, ?_, ?_, ?_⟩ <;> exact decode_of_key rfl

/-- Settles O12: `decode_of_key` for the one row. -/
theorem fenceWordsDecode : Obligations.FenceWordsDecode := fun _ => decode_of_key rfl

/-- Settles O13: `decode_of_key` for each row. -/
theorem immediateAluWordsDecode : Obligations.ImmediateAluWordsDecode := by
  intro w
  refine ⟨?_, ?_, ?_, ?_, ?_, ?_⟩ <;> exact decode_of_key rfl

/-- Settles O14: `decode_of_key` for each row. -/
theorem shiftImmediateWordsDecode : Obligations.ShiftImmediateWordsDecode := by
  intro w
  refine ⟨?_, ?_, ?_⟩ <;> exact decode_of_key rfl

/-- Settles O15: `decode_of_key` for each row. -/
theorem wordImmediateWordsDecode : Obligations.WordImmediateWordsDecode := by
  intro w
  refine ⟨?_, ?_, ?_, ?_⟩ <;> exact decode_of_key rfl

/-- Settles O16: `decode_of_key` for the one row. -/
theorem jalrWordsDecode : Obligations.JalrWordsDecode := fun _ => decode_of_key rfl

/-- Settles O17: `decode_of_key` for each row. -/
theorem upperImmediateWordsDecode : Obligations.UpperImmediateWordsDecode := by
  intro w
  refine ⟨?_, ?_⟩ <;> exact decode_of_key rfl

/-- Settles O18: `decode_of_key` for each row. -/
theorem storeWordsDecode : Obligations.StoreWordsDecode := by
  intro w
  refine ⟨?_, ?_, ?_, ?_⟩ <;> exact decode_of_key rfl

/-- Settles O19: `decode_of_key` for each row. -/
theorem aluWordsDecode : Obligations.AluWordsDecode := by
  intro w
  refine ⟨?_, ?_, ?_, ?_, ?_, ?_, ?_, ?_, ?_, ?_⟩ <;> exact decode_of_key rfl

/-- Settles O20: `decode_of_key` for each row. -/
theorem wordAluWordsDecode : Obligations.WordAluWordsDecode := by
  intro w
  refine ⟨?_, ?_, ?_, ?_, ?_⟩ <;> exact decode_of_key rfl

/-- Settles O21: `decode_of_key` for each row. -/
theorem branchWordsDecode : Obligations.BranchWordsDecode := by
  intro w
  refine ⟨?_, ?_, ?_, ?_, ?_, ?_⟩ <;> exact decode_of_key rfl

/-- Settles O22: `decode_of_key` for the one row. -/
theorem jalWordsDecode : Obligations.JalWordsDecode := fun _ => decode_of_key rfl

end Sys2Proof
end

section
/-! PROOFS. Family other: the words that decode to nothing. -/

namespace Sys2Proof

/-! ## What each dispatch refuses (R71) -/

theorem funct3_cases :
    ∀ x : BitVec 3, x = 0#3 ∨ x = 1#3 ∨ x = 2#3 ∨ x = 3#3 ∨ x = 4#3 ∨ x = 5#3 ∨ x = 6#3 ∨ x = 7#3 := by decide

section

variable (f : IFields)

theorem resolveLoad_eq_none_iff : resolveLoad f = none ↔ f.funct3 = 0b111#3 := by
  obtain h | h | h | h | h | h | h | h := funct3_cases f.funct3 <;> simp [resolveLoad, h]

theorem resolveFence_eq_none_iff : resolveFence f = none ↔ f.funct3 ≠ 0b000#3 := by
  obtain h | h | h | h | h | h | h | h := funct3_cases f.funct3 <;> simp [resolveFence, h]

theorem resolveJalr_eq_none_iff : resolveJalr f = none ↔ f.funct3 ≠ 0b000#3 := by
  obtain h | h | h | h | h | h | h | h := funct3_cases f.funct3 <;> simp [resolveJalr, h]

theorem resolveOpImm_eq_none_iff : resolveOpImm f = none ↔
    f.funct3 = 0b001#3 ∧ shtype6 f.imm12 ≠ 0b000000#6 ∨
    f.funct3 = 0b101#3 ∧ shtype6 f.imm12 ≠ 0b000000#6 ∧ shtype6 f.imm12 ≠ 0b010000#6 := by
  obtain h | h | h | h | h | h | h | h := funct3_cases f.funct3 <;> simp [resolveOpImm, h, ite_eq_iff]

theorem resolveOpImm32_eq_none_iff : resolveOpImm32 f = none ↔
    f.funct3 ∈ [0b010#3, 0b011#3, 0b100#3, 0b110#3, 0b111#3] ∨
    f.funct3 = 0b001#3 ∧ shtype7 f.imm12 ≠ 0b0000000#7 ∨
    f.funct3 = 0b101#3 ∧ shtype7 f.imm12 ≠ 0b0000000#7 ∧ shtype7 f.imm12 ≠ 0b0100000#7 := by
  obtain h | h | h | h | h | h | h | h := funct3_cases f.funct3 <;> simp [resolveOpImm32, h, ite_eq_iff]

theorem resolveSystem_eq_none_iff : resolveSystem f = none ↔
    ¬ (f.funct3 = 0#3 ∧ f.rd = 0#5 ∧ f.rs1 = 0#5 ∧ (f.imm12 = 0#12 ∨ f.imm12 = 1#12)) := by
  refine ⟨?_, resolveSystem_eq_none⟩
  rintro h ⟨hf3, hrd, hrs1, himm | himm⟩ <;> simp [resolveSystem, hf3, hrd, hrs1, himm] at h

end

section

variable (f : RFields)

theorem resolveOp_eq_none_iff : resolveOp f = none ↔
    f.funct7 ≠ 0b0000000#7 ∧ f.funct7 ≠ 0b0100000#7 ∨
    f.funct7 = 0b0100000#7 ∧ f.funct3 ≠ 0b000#3 ∧ f.funct3 ≠ 0b101#3 := by
  by_cases h0 : f.funct7 = 0b0000000#7
  · obtain h | h | h | h | h | h | h | h := funct3_cases f.funct3 <;> simp [resolveOp, h, h0]
  by_cases h1 : f.funct7 = 0b0100000#7
  · obtain h | h | h | h | h | h | h | h := funct3_cases f.funct3 <;> simp [resolveOp, h, h1]
  · simp [resolveOp, h0, h1]

theorem resolveOp32_eq_none_iff : resolveOp32 f = none ↔
    f.funct3 ∈ [0b010#3, 0b011#3, 0b100#3, 0b110#3, 0b111#3] ∨
    f.funct7 ≠ 0b0000000#7 ∧ f.funct7 ≠ 0b0100000#7 ∨
    f.funct7 = 0b0100000#7 ∧ f.funct3 = 0b001#3 := by
  by_cases h0 : f.funct7 = 0b0000000#7
  · obtain h | h | h | h | h | h | h | h := funct3_cases f.funct3 <;> simp [resolveOp32, h, h0]
  by_cases h1 : f.funct7 = 0b0100000#7
  · obtain h | h | h | h | h | h | h | h := funct3_cases f.funct3 <;> simp [resolveOp32, h, h1]
  · simp [resolveOp32, h0, h1]

end

section

variable {w : Word}

theorem resolveS_eq_none_iff (hop : opcode w = 0b0100011#7) :
    resolveS w = none ↔ funct3 w ∈ [0b100#3, 0b101#3, 0b110#3, 0b111#3] := by
  obtain h | h | h | h | h | h | h | h := funct3_cases (funct3 w) <;> simp [resolveS, groupOf, hop, h]

theorem resolveB_eq_none_iff (hop : opcode w = 0b1100011#7) :
    resolveB w = none ↔ funct3 w = 0b010#3 ∨ funct3 w = 0b011#3 := by
  obtain h | h | h | h | h | h | h | h := funct3_cases (funct3 w) <;> simp [resolveB, groupOf, hop, h]

end

/-! ## The illegal space (R71) -/

theorem decode_eq_undefined_iff {w : Word} : decode w = .undefined ↔ decodeWord w = none := by
  refine ⟨?_, decode_of_decodeWord_none⟩
  intro h
  cases hw : decodeWord w with
  | none => rfl
  | some i => rw [decode_of_decodeWord hw] at h; cases h

/-- In each opcode group the conditions of the illegal space are those under which the group's dispatch has no
answer. -/
theorem resolveGroup_eq_none_iff {w : Word} {g : Group} (hop : opcode w = g.opcode) :
    resolveGroup w g = none ↔ illegalSpace w = true := by
  have h6 := shtype6_imm12Field w
  have h7 := shtype7_imm12Field w
  cases g <;> simp only [Group.opcode] at hop
  case load => simp [resolveGroup, resolveLoad_eq_none_iff, illegalSpace, hop, extractI]
  case fence => simp [resolveGroup, resolveFence_eq_none_iff, illegalSpace, hop, extractI]
  case jalr => simp [resolveGroup, resolveJalr_eq_none_iff, illegalSpace, hop, extractI]
  case opImm => simp [resolveGroup, resolveOpImm_eq_none_iff, illegalSpace, hop, extractI, h6]
  case opImm32 => simp [resolveGroup, resolveOpImm32_eq_none_iff, illegalSpace, hop, extractI, h7, or_assoc]
  case system =>
    simp [resolveGroup, resolveSystem_eq_none_iff, illegalSpace, hop, extractI, imp_iff_not_or, or_assoc]
  case op => simp [resolveGroup, resolveOp_eq_none_iff, illegalSpace, hop, extractR]
  case op32 => simp [resolveGroup, resolveOp32_eq_none_iff, illegalSpace, hop, extractR, or_assoc]
  case store => simp [resolveGroup, resolveS_eq_none_iff hop, illegalSpace, hop, or_assoc]
  case branch => simp [resolveGroup, resolveB_eq_none_iff hop, illegalSpace, hop]
  case auipc | lui | jal => simp [resolveGroup, illegalSpace, hop]

/-- An opcode of no group is the first condition. -/
theorem illegalSpace_of_groupOf_none {w : Word} (h : groupOf (opcode w) = none) : illegalSpace w = true := by
  unfold groupOf at h
  split at h
  case h_14 => simp_all [illegalSpace]
  all_goals cases h

/-- Settles O28: with an opcode group the condition is that of the group's dispatch, without one it is the first. -/
theorem undefinedIsTheIllegalSpace : Obligations.UndefinedIsTheIllegalSpace := by
  intro w
  rw [decode_eq_undefined_iff, decodeWord_eq_resolveGroup]
  cases h : groupOf (opcode w) with
  | none => exact iff_of_true rfl (illegalSpace_of_groupOf_none h)
  | some g => exact resolveGroup_eq_none_iff (opcode_of_groupOf _ g h)

/-! ## The tie-break of the R families (R122) -/

section

variable {w : Word}

theorem decode_eq_undefined_iff_of_op (hop : opcode w = 0b0110011#7) : decode w = .undefined ↔
    funct7 w ≠ 0b0000000#7 ∧ funct7 w ≠ 0b0100000#7 ∨
    funct7 w = 0b0100000#7 ∧ funct3 w ≠ 0b000#3 ∧ funct3 w ≠ 0b101#3 := by
  rw [decode_eq_undefined_iff, decodeWord_of_opcode (g := .op) hop]
  exact resolveOp_eq_none_iff (extractR w)

theorem decode_eq_undefined_iff_of_op32 (hop : opcode w = 0b0111011#7) : decode w = .undefined ↔
    funct3 w ∈ [0b010#3, 0b011#3, 0b100#3, 0b110#3, 0b111#3] ∨
    funct7 w ≠ 0b0000000#7 ∧ funct7 w ≠ 0b0100000#7 ∨
    funct7 w = 0b0100000#7 ∧ funct3 w = 0b001#3 := by
  rw [decode_eq_undefined_iff, decodeWord_of_opcode (g := .op32) hop]
  exact resolveOp32_eq_none_iff (extractR w)

/-- A row of an R mnemonic, by its three fields. -/
theorem decode_of_funct7_key {m : Mnemonic} {f7 : BitVec 7} {f3 : BitVec 3} {op : BitVec 7}
    (hr : rowOf m = some ⟨m, encodeR f7 f3 op 0#5 0#5 0#5, 0xfe00707f#32⟩) (hop : opcode w = op) (hf3 : funct3 w = f3)
    (hf7 : funct7 w = f7) : ∃ ops, decode w = .decoded m ops :=
  ⟨_, decode_of_key hr ((key_funct7 w f7 f3 op).mpr ⟨hop, hf3, hf7⟩)⟩

end

/-- Settles O24: the documented pairs are rows of the table (`decode_of_funct7_key`), and the R dispatch says which
funct7 values have no answer. -/
theorem tieBreakSelectsThePair : Obligations.TieBreakSelectsThePair := by
  intro w
  refine ⟨fun hop => ?op, fun hop => ?op32⟩
  case op =>
    refine ⟨decode_of_funct7_key rfl hop, decode_of_funct7_key rfl hop, decode_of_funct7_key rfl hop,
      decode_of_funct7_key rfl hop, ?third, ?zero⟩
    case third =>
      intro _ h0 h1
      exact (decode_eq_undefined_iff_of_op hop).mpr (.inl ⟨h0, h1⟩)
    case zero =>
      intro hf3 hf3'
      rw [decode_eq_undefined_iff_of_op hop]
      by_cases h1 : funct7 w = 0b0100000#7 <;> simp [h1, hf3, hf3']
  case op32 =>
    refine ⟨decode_of_funct7_key rfl hop, decode_of_funct7_key rfl hop, decode_of_funct7_key rfl hop,
      decode_of_funct7_key rfl hop, ?third, ?zero, ?other⟩
    case third =>
      intro _ h0 h1
      exact (decode_eq_undefined_iff_of_op32 hop).mpr (.inr (.inl ⟨h0, h1⟩))
    case zero =>
      intro hf3
      rw [decode_eq_undefined_iff_of_op32 hop]
      by_cases h1 : funct7 w = 0b0100000#7 <;> simp [h1, hf3]
    case other =>
      intro h0 h1 h5
      refine (decode_eq_undefined_iff_of_op32 hop).mpr (.inl ?_)
      obtain h | h | h | h | h | h | h | h := funct3_cases (funct3 w) <;> simp_all

end Sys2Proof
end

section
/-! PROOFS. Family other: the forms of the multiplexer, the bytes of a stream, and the spec's printed words. -/

namespace Sys2Proof

/-! ## The multiplexer (R155) -/

/-- A candidate is the decoder's answer when its format is selected, and none otherwise. -/
theorem resolve_eq_ite (w : Word) (f : Format) :
    resolve f w = if classify (opcode w) = some f then decodeWord w else none := by
  split_ifs with h
  · exact (decodeWord_of_classify h).symm
  · by_contra hanswer
    exact h (classify_of_resolve w f hanswer)

theorem decodeParallel_eq (w : Word) : decodeParallel w = decodeWord w := by
  unfold decodeParallel decodeWord
  cases classify (opcode w) with
  | none => rfl
  | some f => cases f <;> rfl

/-- The OR passes the one candidate that is an instruction. -/
theorem decodeOr_eq (w : Word) : decodeOr w = decodeWord w := by
  change (resolve .R w).or ((resolve .I w).or ((resolve .S w).or ((resolve .B w).or ((resolve .U w).or
    (resolve .J w))))) = decodeWord w
  simp only [resolve_eq_ite]
  cases h : classify (opcode w) with
  | none => simp [decodeWord, h]
  | some f => cases f <;> simp

/-- Settles O34: each form answers what the decoder answers, and a candidate's format is the opcode's. -/
theorem multiplexerFormsAgree : Obligations.MultiplexerFormsAgree := by
  intro w
  refine ⟨decodeParallel_eq w, decodeOr_eq w, ?_⟩
  intro f g hf hg
  exact Option.some.inj ((classify_of_resolve w f hf).symm.trans (classify_of_resolve w g hg))

/-! ## The bytes of a stream (R38) -/

/-- A concatenation as a number: the high part at the weight of the low part's width. -/
theorem toNat_append_eq_add {n m : Nat} (x : BitVec n) (y : BitVec m) :
    (x ++ y).toNat = 2 ^ m * x.toNat + y.toNat := by
  rw [BitVec.toNat_append, ← Nat.shiftLeft_add_eq_or_of_lt y.isLt, Nat.shiftLeft_eq, Nat.mul_comm]

theorem wordOfBytes_bytesOfWord (w : Word) :
    wordOfBytes (w.extractLsb 7 0) (w.extractLsb 15 8) (w.extractLsb 23 16) (w.extractLsb 31 24) = w := by
  apply BitVec.eq_of_getLsbD_eq; intro i hi
  simp only [getLsbD_wordOfBytes, BitVec.getLsbD_extractLsb]
  grind

/-- Settles O39: a word is its four bytes at their weights, and the first four bytes of the stream are those of
the first word. -/
theorem streamBytesAreLittleEndian : Obligations.StreamBytesAreLittleEndian := by
  refine ⟨?weights, ?split⟩
  case weights =>
    intro b0 b1 b2 b3
    change BitVec.toNat (w := 8 + 8 + 8 + 8) (b3 ++ b2 ++ b1 ++ b0) = _
    simp only [toNat_append_eq_add]
    omega
  case split =>
    intro w rest
    exact congrArg (· :: wordsOfStream rest) (wordOfBytes_bytesOfWord w)

/-! ## The spec's printed words -/

/-- Settles O25, word by word. -/
theorem specWordsDecodeAsPrinted : Obligations.SpecWordsDecodeAsPrinted := by
  refine ⟨?_, ?_, ?_, ?_, ?_, ?_, ?_, ?_, ?_, ?_, ?_, ?_⟩ <;> decide

end Sys2Proof
end

section
/-! PROOFS. Family other: the output ports. -/

namespace Sys2Proof

/-! ## The operand that a port shows -/

/-- The operand a name's port shows: the register ports their index, the immediate port a signed number, the FENCE
ports a number (R33). -/
def Ports.operand (p : Ports) : OperandName → Operand
  | .rd => .reg p.rdO
  | .rs1 => .reg p.rs1O
  | .rs2 => .reg p.rs2O
  | .imm | .shamt => .imm p.immO.toInt
  | .succ => .imm (Int.ofNat p.succO.toNat)
  | .pred => .imm (Int.ofNat p.predO.toNat)
  | .fm => .imm (Int.ofNat p.fmO.toNat)

/-- An immediate in the 64-bit range comes back from the port. -/
theorem toInt_immPort {v : Int} (hlow : -2147483648 ≤ v) (hhigh : v ≤ 2147483647) :
    (immPort 64 (some (.imm v))).toInt = v :=
  BitVec.toInt_ofInt_eq_self (by decide) (by omega) (by omega)

/-- A FENCE field comes back from its port. -/
theorem toNat_immPort {v : Int} (hlow : 0 ≤ v) (hhigh : v ≤ 15) :
    ((immPort 4 (some (.imm v))).toNat : Int) = v := by
  have hmod : ((BitVec.ofInt 4 v).toNat : Int) = v % 16 := by
    rw [BitVec.toNat_ofInt]; omega
  exact hmod.trans (by omega)

/-- The ports show the whole operand list of a complete result (R35). -/
theorem operands_eq_map_operand {m : Mnemonic} {ops : List Operand} (hfits : m.form.fits ops = true) :
    ops = m.form.names.map (portsOf (.decoded m ops)).operand := by
  unfold OperandForm.fits at hfits
  split at hfits
  case h_1 v hform | h_2 v hform | h_3 v hform | h_6 v hform | h_7 v hform | h_9 v hform | h_10 v hform =>
    have hrange := of_decide_eq_true hfits
    have hv := toInt_immPort (v := v) (by omega) (by omega)
    simp [hform, OperandForm.names, Ports.operand, portsOf, DecodeResult.operand, lookupOperand, regPort, hv]
  case h_4 a b c hform =>
    obtain ⟨ha, ha', hb, hb', hc, hc'⟩ := of_decide_eq_true hfits
    have hsucc := toNat_immPort ha ha'
    have hpred := toNat_immPort hb hb'
    have hfm := toNat_immPort hc hc'
    simp [hform, OperandForm.names, Ports.operand, portsOf, DecodeResult.operand, lookupOperand, hsucc, hpred, hfm]
  case h_5 hform => rw [hform]; rfl
  case h_8 hform =>
    simp [hform, OperandForm.names, Ports.operand, portsOf, DecodeResult.operand, lookupOperand, regPort]
  case h_11 => cases hfits

/-- The operand list under its own names. -/
theorem lookupOperand_map (n : OperandName) (g : OperandName → Operand) (names : List OperandName) :
    lookupOperand n names (names.map g) = if n ∈ names then some (g n) else none := by
  induction names with
  | nil => rfl
  | cons m ms ih =>
    rw [List.map_cons, lookupOperand, ih]
    by_cases h : m = n
    · simp [h]
    · simp [h, Ne.symm h]

section

variable {r : DecodeResult} {n : OperandName}

/-- An operand of a complete result is what its name's port shows, and there is none under any other name. -/
theorem operand_eq_ite (hcomplete : r.complete = true) (n : OperandName) :
    r.operand n = if n ∈ r.names then some ((portsOf r).operand n) else none := by
  cases r with
  | undefined => rfl
  | decoded m ops =>
    have hlookup := lookupOperand_map n (portsOf (.decoded m ops)).operand m.form.names
    rwa [← operands_eq_map_operand hcomplete] at hlookup

theorem operand_of_contains (hcomplete : r.complete = true) (h : r.names.contains n = true) :
    r.operand n = some ((portsOf r).operand n) := by
  rw [operand_eq_ite hcomplete, if_pos (List.contains_iff_mem.mp h)]

theorem operand_of_not_contains (hcomplete : r.complete = true) (h : r.names.contains n = false) :
    r.operand n = none := by
  rw [operand_eq_ite hcomplete, if_neg (by simpa using h)]

/-- A register port is zero when there is no operand of its name. -/
theorem regPort_of_not_contains (hcomplete : r.complete = true) (h : r.names.contains n = false) :
    regPort (r.operand n) = 0#5 ∧ r.operand n = none := by
  rw [operand_of_not_contains hcomplete h]; exact ⟨rfl, rfl⟩

/-- So is an immediate port. -/
theorem immPort_of_not_contains (k : Nat) (hcomplete : r.complete = true) (h : r.names.contains n = false) :
    immPort k (r.operand n) = BitVec.ofInt k 0 := by
  rw [operand_of_not_contains hcomplete h]; rfl

/-- `succ`, `pred` and `fm` come together (R157). -/
theorem contains_fence_names (r : DecodeResult) :
    r.names.contains .pred = r.names.contains .succ ∧ r.names.contains .fm = r.names.contains .succ := by
  cases r with
  | undefined => exact ⟨rfl, rfl⟩
  | decoded m ops =>
    rw [DecodeResult.names]
    cases m.form <;> exact ⟨rfl, rfl⟩

theorem hasFence_eq (r : DecodeResult) : r.hasFence = r.names.contains .succ := by
  obtain ⟨hpred, hfm⟩ := contains_fence_names r
  rw [DecodeResult.hasFence, hpred, hfm, Bool.and_self, Bool.and_self]

end

/-! ## The codes (R34) -/

/-- The table lists the mnemonics in the order of their codes. -/
theorem opcodeTable_at_code (m : Mnemonic) : (opcodeTable[m.code.toNat - 1]?).map Row.mnemonic = some m := by
  cases m <;> rfl

theorem Mnemonic.code_injective {m₁ m₂ : Mnemonic} (h : m₁.code = m₂.code) : m₁ = m₂ :=
  Option.some.inj <| (opcodeTable_at_code m₁).symm.trans (h ▸ opcodeTable_at_code m₂)

theorem Mnemonic.code_le (m : Mnemonic) : m.code.toNat ≤ 52 := by cases m <;> decide

theorem Format.code_ne_seven (f : Format) : f.code ≠ 7#3 := by cases f <;> decide

/-! ## The statements -/

/-- Settles O45: Undefined has no operand and no code, and no mnemonic or format has a reserved code. -/
theorem portsUnderUndefinedAreZero : Obligations.PortsUnderUndefinedAreZero := by
  refine ⟨?zero, ?undefined, ?codes⟩
  case zero => intro w h; rw [h]; rfl
  case undefined =>
    intro w
    cases h : decode w with
    | undefined => exact iff_of_true rfl rfl
    | decoded m ops => exact iff_of_false nofun nofun
  case codes =>
    intro w
    cases decode w with
    | undefined => exact ⟨by decide, by decide⟩
    | decoded m ops => exact ⟨m.format.code_ne_seven, m.code_le⟩

/-- Settles O46: a presence output says whether the name is in the list, and the port shows the operand
(`operand_eq_ite`); the codes are those of the mnemonic and its format. -/
theorem portsCarryTheOperands : Obligations.PortsCarryTheOperands := by
  intro w
  have hcomplete := complete_decode w
  generalize decode w = r at hcomplete
  refine ⟨operand_of_contains hcomplete, regPort_of_not_contains hcomplete, operand_of_contains hcomplete,
    regPort_of_not_contains hcomplete, operand_of_contains hcomplete, regPort_of_not_contains hcomplete,
    ?imm, ?noImm, ?fence, ?noFence, ?codes⟩
  case imm =>
    intro h
    obtain h | h := Bool.or_eq_true_iff.mp h
    · exact .inl (operand_of_contains hcomplete h)
    · exact .inr (operand_of_contains hcomplete h)
  case noImm =>
    intro h
    obtain ⟨himm, hshamt⟩ := Bool.or_eq_false_iff.mp h
    have himm := operand_of_not_contains hcomplete himm
    have hshamt := operand_of_not_contains hcomplete hshamt
    refine ⟨?_, himm, hshamt⟩
    simp only [portsOf, himm, hshamt]
    rfl
  case fence =>
    intro h
    have hsucc : r.names.contains .succ = true := (hasFence_eq r).symm.trans h
    obtain ⟨hpred, hfm⟩ := contains_fence_names r
    exact ⟨operand_of_contains hcomplete hsucc, operand_of_contains hcomplete (hpred.trans hsucc),
      operand_of_contains hcomplete (hfm.trans hsucc)⟩
  case noFence =>
    intro h
    have hsucc : r.names.contains .succ = false := (hasFence_eq r).symm.trans h
    obtain ⟨hpred, hfm⟩ := contains_fence_names r
    have hpred := hpred.trans hsucc
    have hfm := hfm.trans hsucc
    exact ⟨⟨immPort_of_not_contains 4 hcomplete hsucc, immPort_of_not_contains 4 hcomplete hpred,
        immPort_of_not_contains 4 hcomplete hfm⟩, operand_of_not_contains hcomplete hsucc,
      operand_of_not_contains hcomplete hpred, operand_of_not_contains hcomplete hfm⟩
  case codes =>
    rintro m ops rfl
    refine ⟨?_, ?_⟩
    · change (m.format, m.format.code) ∈ _
      cases m.format <;> decide
    · change (m, m.code) ∈ _
      cases m <;> decide

/-- Complete results with equal ports are equal: the code gives the mnemonic, and the ports under the names of its shape
give the operands. -/
theorem eq_of_portsOf_eq {r₁ r₂ : DecodeResult} (h₁ : r₁.complete = true) (h₂ : r₂.complete = true)
    (h : portsOf r₁ = portsOf r₂) : r₁ = r₂ := by
  have hundefined : r₁.isUndefined = r₂.isUndefined := congrArg Ports.undefinedO h
  have hcode : r₁.mnemonicCode = r₂.mnemonicCode := congrArg Ports.mnemonicO h
  cases r₁ with
  | undefined =>
    cases r₂ with
    | undefined => rfl
    | decoded m₂ ops₂ => cases hundefined
  | decoded m₁ ops₁ =>
    cases r₂ with
    | undefined => cases hundefined
    | decoded m₂ ops₂ =>
      obtain rfl : m₁ = m₂ := Mnemonic.code_injective hcode
      rw [operands_eq_map_operand h₁, operands_eq_map_operand h₂, h]

/-- Settles O47: every result is complete, and complete results are told apart by their ports. -/
theorem portsLoseNothing : Obligations.PortsLoseNothing := fun w₁ w₂ =>
  eq_of_portsOf_eq (complete_decode w₁) (complete_decode w₂)

end Sys2Proof
end

section
/-! PROOFS. Family other: a defined result determines the word. -/

namespace Sys2Proof

/-! ## Words that agree on a field -/

/-- The bits `hi` to `lo` of a word. -/
def fieldMask (hi lo : Nat) : Word := (BitVec.allOnes (hi - lo + 1)).setWidth 32 <<< lo

/-- Words with the same field agree under its mask. -/
theorem agree_of_extractLsb_eq {w v : Word} {hi lo : Nat} (h : w.extractLsb hi lo = v.extractLsb hi lo) :
    w &&& fieldMask hi lo = v &&& fieldMask hi lo := by
  apply BitVec.eq_of_getLsbD_eq; intro i hi
  have hbit := congrArg (fun x => x.getLsbD (i - lo)) h
  simp only [BitVec.getLsbD_extractLsb] at hbit
  simp only [fieldMask, BitVec.getLsbD_and, BitVec.getLsbD_shiftLeft, BitVec.getLsbD_setWidth, BitVec.getLsbD_allOnes]
  grind

/-- Words that agree under two masks agree under their union. -/
theorem agree_or {w v a b : Word} (ha : w &&& a = v &&& a) (hb : w &&& b = v &&& b) :
    w &&& (a ||| b) = v &&& (a ||| b) := by
  rw [BitVec.and_or_distrib_left, BitVec.and_or_distrib_left, ha, hb]

/-- Equal concatenations have equal parts. -/
theorem append_inj {n m : Nat} {x x' : BitVec n} {y y' : BitVec m} (h : x ++ y = x' ++ y') : x = x' ∧ y = y' := by
  have hhigh := congrArg (BitVec.extractLsb' m n) h
  have hlow := congrArg (BitVec.extractLsb' 0 m) h
  simp only [BitVec.extractLsb'_append_eq_left, BitVec.extractLsb'_append_eq_right] at hhigh hlow
  exact ⟨hhigh, hlow⟩

/-! ## The bits of a word that its operands show (R157) -/

/-- The bits that an operand list of a shape is read from. -/
def OperandForm.operandMask : OperandForm → Word
  | .rdRs1ImmI => fieldMask 11 7 ||| fieldMask 19 15 ||| fieldMask 31 20
  | .rdRs1Shamt6 => fieldMask 11 7 ||| fieldMask 19 15 ||| fieldMask 25 20
  | .rdRs1Shamt5 | .rdRs1Rs2 => fieldMask 11 7 ||| fieldMask 19 15 ||| fieldMask 24 20
  | .succPredFm => fieldMask 23 20 ||| fieldMask 27 24 ||| fieldMask 31 28
  | .none => 0#32
  | .rdImmU => fieldMask 11 7 ||| 0xfffff000#32
  | .rs1Rs2ImmS => fieldMask 19 15 ||| fieldMask 24 20 ||| (fieldMask 31 25 ||| fieldMask 11 7)
  | .rs1Rs2ImmB => fieldMask 19 15 ||| fieldMask 24 20 |||
      (fieldMask 31 31 ||| fieldMask 7 7 ||| fieldMask 30 25 ||| fieldMask 11 8)
  | .rdImmJ => fieldMask 11 7 ||| (fieldMask 31 31 ||| fieldMask 19 12 ||| fieldMask 20 20 ||| fieldMask 30 21)

/-- Words with the same operands agree on the bits these are read from. -/
theorem agree_operandMask {w v : Word} {f : OperandForm} (h : f.ofWord w = f.ofWord v) :
    w &&& f.operandMask = v &&& f.operandMask := by
  cases f <;> simp only [OperandForm.ofWord, List.cons.injEq, Operand.reg.injEq, Operand.imm.injEq, Int.ofNat.injEq,
    BitVec.toNat_inj, BitVec.toInt_inj, and_true] at h
  case none => exact BitVec.and_zero.trans BitVec.and_zero.symm
  case rdRs1ImmI | rdRs1Shamt6 | rdRs1Shamt5 | rdRs1Rs2 | succPredFm =>
    obtain ⟨h₁, h₂, h₃⟩ := h
    exact agree_or (agree_or (agree_of_extractLsb_eq h₁) (agree_of_extractLsb_eq h₂)) (agree_of_extractLsb_eq h₃)
  case rdImmU =>
    obtain ⟨hrd, himm⟩ := h
    exact agree_or (agree_of_extractLsb_eq hrd) himm
  case rs1Rs2ImmS =>
    obtain ⟨hrs1, hrs2, himm⟩ := h
    obtain ⟨hhi, hlo⟩ := append_inj himm
    exact agree_or (agree_or (agree_of_extractLsb_eq hrs1) (agree_of_extractLsb_eq hrs2))
      (agree_or (agree_of_extractLsb_eq hhi) (agree_of_extractLsb_eq hlo))
  case rs1Rs2ImmB =>
    obtain ⟨hrs1, hrs2, himm⟩ := h
    obtain ⟨himm, -⟩ := append_inj (n := 1 + 1 + 6 + 4) himm
    obtain ⟨himm, h11_8⟩ := append_inj (n := 1 + 1 + 6) himm
    obtain ⟨himm, h30_25⟩ := append_inj (n := 1 + 1) himm
    obtain ⟨h31, h7⟩ := append_inj himm
    exact agree_or (agree_or (agree_of_extractLsb_eq hrs1) (agree_of_extractLsb_eq hrs2))
      (agree_or (agree_or (agree_or (agree_of_extractLsb_eq h31) (agree_of_extractLsb_eq h7))
        (agree_of_extractLsb_eq h30_25)) (agree_of_extractLsb_eq h11_8))
  case rdImmJ =>
    obtain ⟨hrd, himm⟩ := h
    obtain ⟨himm, -⟩ := append_inj (n := 1 + 8 + 1 + 10) himm
    obtain ⟨himm, h30_21⟩ := append_inj (n := 1 + 8 + 1) himm
    obtain ⟨himm, h20⟩ := append_inj (n := 1 + 8) himm
    obtain ⟨h31, h19_12⟩ := append_inj himm
    exact agree_or (agree_of_extractLsb_eq hrd)
      (agree_or (agree_or (agree_or (agree_of_extractLsb_eq h31) (agree_of_extractLsb_eq h19_12))
        (agree_of_extractLsb_eq h20)) (agree_of_extractLsb_eq h30_21))

/-- A row's mask and its operands' bits make up the whole word, FENCE apart, whose `rd` and `rs1` are neither. -/
theorem mask_or_operandMask {r : Row} (hr : r ∈ opcodeTable) : r.mask ||| r.mnemonic.form.operandMask =
    if r.mnemonic = .FENCE then 0xfff0707f#32 else BitVec.allOnes 32 := by
  revert r; decide

/-! ## Equal results (R160) -/

/-- Words with the same defined result agree on all that the mnemonic's row and the operands show. -/
theorem agree_of_decode_eq {w v : Word} {m : Mnemonic} {ops : List Operand} (hw : decode w = .decoded m ops)
    (hv : decode v = .decoded m ops) :
    w &&& (if m = .FENCE then 0xfff0707f#32 else BitVec.allOnes 32) =
      v &&& (if m = .FENCE then 0xfff0707f#32 else BitVec.allOnes 32) := by
  obtain ⟨r, hr, rfl, hhits⟩ := exists_row_of_decode hw
  obtain ⟨r', hr', hm, hhits'⟩ := exists_row_of_decode hv
  obtain rfl : r' = r := Option.some.inj <| (rowOf_mnemonic hr').symm.trans (hm ▸ rowOf_mnemonic hr)
  rw [← mask_or_operandMask hr]
  refine agree_or ((eq_of_beq hhits).trans (eq_of_beq hhits').symm) (agree_operandMask ?_)
  rw [← operands_of_decode hw, ← operands_of_decode hv]

/-- The FENCE dispatch reads funct3 and the immediate, and its result reports neither `rd` nor `rs1` (R92). -/
theorem result_resolveFence_congr {f g : IFields} (hf3 : f.funct3 = g.funct3) (himm : f.imm12 = g.imm12) :
    candidateResult (resolveFence f) = candidateResult (resolveFence g) := by
  unfold resolveFence; rw [hf3, himm]; split <;> rfl

theorem decode_of_opcode_fence {w : Word} (hop : opcode w = 0b0001111#7) :
    decode w = candidateResult (resolveFence (extractI w)) :=
  congrArg candidateResult (decodeWord_of_opcode (g := .fence) hop)

/-- Settles O35: the row and the operands show every bit, FENCE's two ignored fields apart (`agree_of_decode_eq`), and
these do not enter its result. -/
theorem resultsDetermineTheWord : Obligations.ResultsDetermineTheWord := by
  refine ⟨?determined, ?ignored⟩
  case determined =>
    intro w₁ w₂ heq hdefined
    cases h : decode w₁ with
    | undefined => exact absurd h hdefined
    | decoded m ops =>
      have hagree := agree_of_decode_eq h (heq ▸ h)
      by_cases hm : m = .FENCE
      · subst hm
        exact .inr ⟨opcode_of_groupOf _ .fence (groupOf_opcode_of_decode h), hagree⟩
      · rw [if_neg hm, BitVec.and_allOnes, BitVec.and_allOnes] at hagree
        exact .inl hagree
  case ignored =>
    intro w₁ w₂ hop hagree
    have hop₂ : opcode w₂ = 0b0001111#7 := (extractLsb_eq_of_agree hagree rfl).symm.trans hop
    rw [decode_of_opcode_fence hop, decode_of_opcode_fence hop₂]
    exact result_resolveFence_congr (extractLsb_eq_of_agree hagree rfl) (extractLsb_eq_of_agree hagree rfl)

end Sys2Proof
end

section
/-! PROOFS. Family other: how many words decode. -/

namespace Sys2Proof

/-! ## The words of one row -/

/-- A word is its 32 bits. -/
def bitsOf (w : Word) (i : Fin 32) : Bool := w.getLsbD i

theorem bitsOf_injective : Function.Injective bitsOf := by
  intro w v h
  apply BitVec.eq_of_getLsbD_eq; intro i hi
  exact congrFun h ⟨i, hi⟩

theorem bitsOf_surjective : Function.Surjective bitsOf := by
  intro b
  refine ⟨BitVec.ofFnLE b, ?_⟩
  funext i
  rw [bitsOf, BitVec.getLsbD_ofFnLE]
  simp

theorem finite_word : Finite Word := Finite.of_injective bitsOf bitsOf_injective

/-- A word of a row has the key's bits where the mask examines them, and any bits elsewhere. -/
theorem hits_iff_bitsOf {r : Row} (hself : r.key &&& r.mask = r.key) (w : Word) :
    r.hits w = true ↔ ∀ i, bitsOf r.mask i = true → bitsOf w i = bitsOf r.key i := by
  have hand (x : Word) (i : Fin 32) : bitsOf (x &&& r.mask) i = (bitsOf x i && bitsOf r.mask i) := BitVec.getLsbD_and
  have hkey (i : Fin 32) : bitsOf r.key i = (bitsOf r.key i && bitsOf r.mask i) := by rw [← hand, hself]
  rw [Row.hits, beq_iff_eq, ← bitsOf_injective.eq_iff, funext_iff]
  refine forall_congr' fun i => ?_
  rw [hand, hkey]
  cases bitsOf r.mask i <;> simp

/-- The bits a row examines have one choice, the others two. -/
theorem image_bitsOf_hits {r : Row} (hself : r.key &&& r.mask = r.key) :
    bitsOf '' {w | r.hits w = true} =
      Fintype.piFinset fun i => if bitsOf r.mask i = true then {bitsOf r.key i} else Finset.univ := by
  ext b
  obtain ⟨w, rfl⟩ := bitsOf_surjective b
  rw [bitsOf_injective.mem_set_image, Set.mem_ofPred_eq, hits_iff_bitsOf hself, Finset.mem_coe, Fintype.mem_piFinset]
  refine forall_congr' fun i => ?_
  split_ifs with h <;> simp [h]

/-- How many bits a row does not examine. -/
def Row.freeBits (r : Row) : Nat := (Finset.univ.filter fun i => ¬ bitsOf r.mask i = true).card

theorem ncard_hits {r : Row} (hself : r.key &&& r.mask = r.key) : {w | r.hits w = true}.ncard = 2 ^ r.freeBits := by
  rw [← Set.ncard_image_of_injective _ bitsOf_injective, image_bitsOf_hits hself, Set.ncard_coe_finset,
    Fintype.card_piFinset]
  have hchoices (i : Fin 32) : (if bitsOf r.mask i = true then {bitsOf r.key i} else Finset.univ).card =
      if bitsOf r.mask i = true then 1 else 2 := by
    split_ifs <;> rfl
  simp only [hchoices, Finset.prod_ite, Finset.prod_const, one_pow, one_mul, Row.freeBits]

/-! ## The words of all rows -/

theorem ncard_exists_hits {rows : List Row}
    (hdisjoint : rows.Pairwise fun r₁ r₂ => ∀ w, r₁.hits w = true → r₂.hits w = true → False) :
    {w | ∃ r ∈ rows, r.hits w = true}.ncard = (rows.map fun r => {w | r.hits w = true}.ncard).sum := by
  have := finite_word
  induction rows with
  | nil => simp
  | cons r rows ih =>
    obtain ⟨hr, hrows⟩ := List.pairwise_cons.mp hdisjoint
    have hunion : {w | ∃ r' ∈ r :: rows, r'.hits w = true} =
        {w | r.hits w = true} ∪ {w | ∃ r' ∈ rows, r'.hits w = true} := by
      ext w; simp
    have hdisj : Disjoint {w | r.hits w = true} {w | ∃ r' ∈ rows, r'.hits w = true} := by
      rw [Set.disjoint_left]
      rintro w hw ⟨r', hr', hw'⟩
      exact hr r' hr' w hw hw'
    rw [hunion, Set.ncard_union_eq hdisj, ih hrows, List.map_cons, List.sum_cons]

/-- The sum that the masks of the 52 rows give (R70). -/
theorem sum_two_pow_freeBits : (opcodeTable.map fun r => 2 ^ r.freeBits).sum = 210501634 := by decide

theorem opcodeTable_pairwise_disjoint :
    opcodeTable.Pairwise fun r₁ r₂ => ∀ w, r₁.hits w = true → r₂.hits w = true → False := by
  have hnodup : opcodeTable.Nodup := by decide
  refine hnodup.imp_of_mem ?_
  intro r₁ r₂ hr₁ hr₂ hne w h₁ h₂
  exact hne (row_unique hr₁ hr₂ h₁ h₂)

theorem decode_ne_undefined_iff (w : Word) : decode w ≠ .undefined ↔ ∃ r ∈ opcodeTable, r.hits w = true := by
  constructor
  · intro h
    cases hw : decode w with
    | undefined => exact absurd hw h
    | decoded m ops =>
      obtain ⟨r, hr, -, hhits⟩ := exists_row_of_decode hw
      exact ⟨r, hr, hhits⟩
  · rintro ⟨r, hr, hhits⟩
    rw [decode_of_hits hr hhits]
    exact nofun

theorem ncard_defined : {w | decode w ≠ .undefined}.ncard = 210501634 := by
  have hset : {w | decode w ≠ .undefined} = {w | ∃ r ∈ opcodeTable, r.hits w = true} :=
    Set.ext decode_ne_undefined_iff
  have hrow : ∀ r ∈ opcodeTable, {w | r.hits w = true}.ncard = 2 ^ r.freeBits := by
    intro r hr
    obtain ⟨-, -, -, hself, -⟩ := row_key hr
    exact ncard_hits hself
  rw [hset, ncard_exists_hits opcodeTable_pairwise_disjoint, List.map_congr_left hrow, sum_two_pow_freeBits]

theorem card_word : Nat.card Word = 2 ^ 32 :=
  (Nat.card_congr BitVec.equivFin.toEquiv).trans (Nat.card_fin _)

/-- Settles O29: the defined words are those of the 52 rows, which share none, and the Undefined ones are the rest of
the 2^32. -/
theorem definedAndUndefinedWordCounts : Obligations.DefinedAndUndefinedWordCounts := by
  refine ⟨ncard_defined, ?undefined⟩
  case undefined =>
    have := finite_word
    have hcompl : {w | decode w ≠ .undefined}ᶜ = {w | decode w = .undefined} := by ext w; simp
    have htotal := Set.ncard_add_ncard_compl {w | decode w ≠ .undefined}
    rw [ncard_defined, hcompl, card_word] at htotal
    change {w | decode w = .undefined}.ncard = 4084465662
    omega

end Sys2Proof
end
